-- ==== Sys2Proof/Word.lean ====
section
/-! DEFINITION. The widths LSBPACK fixes (00_scope.md R6). -/

namespace Sys2Proof

/-- A host bus data word, a bus address or a 32-bit register (R6). -/
abbrev Word := BitVec 32

/-- One byte of the payload RAM (10_state.md R51). -/
abbrev Byte := BitVec 8

/-- One entry of the sample RAM, 16 bits whatever the sample width W (R6, 10_state.md R50). -/
abbrev Sample := BitVec 16

end Sys2Proof
end

