-- ==== Sys2Proof/Config.lean ====
section
/-! DEFINITION. The parameters of one LSBPACK (00_scope.md R5) and the values the spec leaves open, as constants with
no body: nothing can be proved of their values. -/

namespace Sys2Proof

/-- The two implementation parameters (R5): entries of the sample RAM and bytes of the payload RAM. -/
structure Params where
  nsMax : Nat
  pbMax : Nat
deriving DecidableEq, Repr

/-- The values R5 admits: 1 ≤ NS_MAX ≤ 2^28 − 1, PB_MAX a multiple of 4 with 2 × NS_MAX ≤ PB_MAX ≤ 2^31. -/
abbrev Params.wf (p : Params) : Prop :=
  1 ≤ p.nsMax ∧ p.nsMax ≤ 2 ^ 28 - 1 ∧ p.pbMax % 4 = 0 ∧ 2 * p.nsMax ≤ p.pbMax ∧ p.pbMax ≤ 2 ^ 31

namespace Config

/-- Which admitted NS_MAX this machine has; DESIGN CHOICE, safe: free (log entry 1). -/
opaque nsMaxChoice : Nat

/-- Which admitted PB_MAX this machine has; DESIGN CHOICE, safe: free (log entry 1). -/
opaque pbMaxChoice : Nat

/-- The parameters of the machine that State.reset starts. Every pair R5 admits is the value for some choice, and no
other pair is (log entry 1). -/
def params : Params :=
  let ns := nsMaxChoice % (2 ^ 28 - 1) + 1
  let least := (ns + 1) / 2
  { nsMax := ns, pbMax := 4 * (least + pbMaxChoice % (2 ^ 29 + 1 - least)) }

/-- SRAM[i] after the n-th reset: "any value per entry, independently" (10_state.md R53); arguments n, i
(log entry 2). -/
opaque sramAtReset : Nat → Nat → Sample

/-- PRAM[j] after the n-th reset: "any value per byte, independently" (R53); arguments n, j (log entry 2). -/
opaque pramAtReset : Nat → Nat → Byte

/-- PCMD after the n-th reset: unspecified, never observable while IDLE (R53, V4; log entry 3). -/
opaque pcmdAtReset : Nat → Word

/-- The n-th value a host read draws where the spec says "any value": while BUSY (70_reset_and_hazards.md R235) or
while rst is asserted (R231); log entries 8 and 12. -/
opaque anyRead : Nat → Word

/-- Whether the n-th access made while rst is asserted is answered with an error, which the spec says a model cannot
rely on (R231; log entry 12). -/
opaque errorInReset : Nat → Bool

end Config

end Sys2Proof
end

