-- ==== Sys2Proof/Syntax.lean ====
section
/-! DEFINITION. The eight commands (30_encoding.md R91). Commands carry no register numbers and no immediates (R95), so
no constructor has an argument. -/

namespace Sys2Proof

/-- The command set "is exactly the eight commands of rule R91" (43_control.md R194). -/
inductive Instr where
  /-- 0x00000000, 43_control.md R192. -/
  | nop
  /-- 0x00000001, 41_capacity.md R148. -/
  | capq
  /-- 0x00000002, 41_capacity.md R149. -/
  | chkfit
  /-- 0x00000003, 41_capacity.md R150. -/
  | chkfitt
  /-- 0x00000004, 40_bit_codec.md R116. -/
  | ilv
  /-- 0x00000005, 42_framed.md R172. -/
  | ilvt
  /-- 0x00000006, 40_bit_codec.md R117. -/
  | dilv
  /-- 0x00000007, 42_framed.md R173. -/
  | dilvt
deriving DecidableEq, Repr

end Sys2Proof
end

