-- ==== Sys2Proof/WellFormed.lean ====
section
/-! DEFINITION. Which terms are well formed: instructions, command words, parameters. -/

namespace Sys2Proof

/-- Every instruction term is well formed: a command has no operand field that could be out of range
(30_encoding.md R95, R97). The match names each constructor so that a new one cannot slip past. -/
def Instr.wf : Instr → Bool
  | .nop => true
  | .capq => true
  | .chkfit => true
  | .chkfitt => true
  | .ilv => true
  | .ilvt => true
  | .dilv => true
  | .dilvt => true

/-- A command word's reserved bits [31:8] are zero (R92). -/
def reservedBitsZero (w : Word) : Bool := w.extractLsb' 8 24 == 0#24

/-- A command word's OPC is one of the eight assigned values (R93). -/
def opcodeAssigned (w : Word) : Bool := (w.extractLsb' 0 8).toNat < 8

/-- A command word that stands for a command. -/
def commandWordWf (w : Word) : Bool := reservedBitsZero w && opcodeAssigned w

end Sys2Proof
end

