-- ==== Sys2Proof/Decode.lean ====
section
/-! DEFINITION. Decoding and encoding of command words (30_encoding.md R90 to R94). -/

namespace Sys2Proof

/-- Why a word is no command; both reasons end the command with ILLEGAL_COMMAND (60_exceptions.md R209). -/
inductive DecodeError where
  /-- RSV ≠ 0, whatever the OPC (R92). -/
  | reservedBits
  /-- RSV = 0 and OPC in 0x08..0xFF (R93). -/
  | reservedOpcode
deriving DecidableEq, Repr

/-- Field OPC, bits [7:0] (R90). -/
def opcField (w : Word) : BitVec 8 := w.extractLsb' 0 8

/-- Field RSV, bits [31:8] (R90). -/
def rsvField (w : Word) : BitVec 24 := w.extractLsb' 8 24

/-- The decoding rule R94, total on every 32-bit word. -/
def decode (w : Word) : Except DecodeError Instr :=
  if rsvField w ≠ 0#24 then .error .reservedBits
  else
    match (opcField w).toNat with
    | 0 => .ok .nop
    | 1 => .ok .capq
    | 2 => .ok .chkfit
    | 3 => .ok .chkfitt
    | 4 => .ok .ilv
    | 5 => .ok .ilvt
    | 6 => .ok .dilv
    | 7 => .ok .dilvt
    | _ => .error .reservedOpcode

/-- The OPC value of each command (R91). -/
def opcodeOf : Instr → BitVec 8
  | .nop => 0x00#8
  | .capq => 0x01#8
  | .chkfit => 0x02#8
  | .chkfitt => 0x03#8
  | .ilv => 0x04#8
  | .ilvt => 0x05#8
  | .dilv => 0x06#8
  | .dilvt => 0x07#8

/-- The one legal word of a command: RSV = 0 above its OPC (R90, R91). -/
def encode (i : Instr) : Word := 0#24 ++ opcodeOf i

/-- The word a table row's bits stand for, when nbits of them are given and the rest are 0. -/
def tableWord (nbits w : Nat) : Nat := w % 2 ^ nbits

/-- The instruction the decoder reads from an instruction whose bits are w, numbered as spec/opcode_table.json numbers
them. The bus carries a whole 32-bit word, so no byte order enters (20_memory.md R73); more than 32 bits is no word
that can be written to CMD. -/
def decodeTableWord (nbits w : Nat) : Option Instr :=
  if tableWord nbits w < 2 ^ 32 then
    match decode (BitVec.ofNat 32 (tableWord nbits w)) with
    | .ok i => some i
    | .error _ => none
  else none

end Sys2Proof
end

