-- ==== Sys2Proof/Machine/Arith.lean ====
section
/-! DEFINITION. The capacity functions, the fit tests and the report functions of 41_capacity.md, on naturals
(00_scope.md R8). The functions `maxbits`, `tagw` and `capbytes` of the spec are named maxbitsOf, tagwOf and capbytesOf here,
for MAXBITS, TAGW and CAPBYTES are also registers. -/

namespace Sys2Proof.Machine

/-- "the number of bits needed to represent n (0 for n=0)" (R8). -/
def bitLength (n : Nat) : Nat := if n = 0 then 0 else Nat.log2 n + 1

/-- max_bits_to_hide: n × k (R140). -/
def maxbitsOf (n k : Nat) : Nat := n * k

/-- bytes_for_size_tag: ceil(bit_length(n × k) / 8) (R142). -/
def tagwOf (n k : Nat) : Nat := (bitLength (maxbitsOf n k) + 7) / 8

/-- capacity_bytes: (n × k) div 8 (R143). -/
def capbytesOf (n k : Nat) : Nat := maxbitsOf n k / 8

/-- The capacity bound on a payload of L bytes and its tag of tw bytes (R144). -/
abbrev fitCap (L tw n k : Nat) : Prop := 8 * (L + tw) ≤ maxbitsOf n k

/-- The same bound over the N samples present (R145). -/
abbrev fitCarrier (L tw N k : Nat) : Prop := 8 * (L + tw) ≤ N * k

/-- The largest payload fitCap admits, 0 if even the tag does not fit (R146; natural subtraction is sat0). -/
def maxpayCap (tw n k : Nat) : Nat := capbytesOf n k - tw

/-- The largest payload both bounds admit (R146). -/
def maxpayAll (tw n N k : Nat) : Nat := (min n N * k) / 8 - tw

/-- The tag width at k': recomputed for the tagged commands, 0 for the raw ones (R147). -/
def twAt (tagged : Bool) (n k : Nat) : Nat := if tagged then tagwOf n k else 0

/-- The smallest k' in 1..W with the property, 0 when there is none (R147: "min of the empty set is 0"). -/
def leastK (W : Nat) (fits : Nat → Bool) : Nat :=
  (((List.range W).map (· + 1)).find? fits).getD 0

/-- MINK of CHKFIT and CHKFITT (R147). -/
def minkCap (L : Nat) (tagged : Bool) (n W : Nat) : Nat :=
  leastK W fun k => decide (fitCap L (twAt tagged n k) n k)

/-- MINK of ILV and ILVT (R147). -/
def minkAll (L : Nat) (tagged : Bool) (n N W : Nat) : Nat :=
  leastK W fun k => decide (fitCap L (twAt tagged n k) n k ∧ fitCarrier L (twAt tagged n k) N k)

end Sys2Proof.Machine
end

