-- ==== Sys2Proof/Machine/BitStream.lean ====
section
/-! DEFINITION. The bit-stream functions of 40_bit_codec.md and the size tag of 42_framed.md, each written as its rule
gives it. -/

namespace Sys2Proof.Machine

/-- The bit stream of a byte list, most significant bit first in each byte, byte 0 first (R110). -/
def bitsOf (B : List Byte) : List Bool :=
  (List.range (8 * B.length)).map fun p => (B.getD (p / 8) 0#8).getLsbD (7 - p % 8)

/-- The byte whose bits, most significant first, are c[at], …, c[at + 7] (R111). -/
def byteAt (c : List Bool) (at_ : Nat) : Byte :=
  BitVec.ofNat 8 (((List.range 8).map fun i => (c.getD (at_ + i) false).toNat * 2 ^ (7 - i)).sum)

/-- The bytes of a bit stream whose length is a multiple of 8 (R111). -/
def bytesOf (c : List Bool) : List Byte :=
  (List.range (c.length / 8)).map fun j => byteAt c (8 * j)

/-- How many samples receive a chunk: ceil(nb / k) (R112). -/
def numChunks (nb k : Nat) : Nat := (nb + k - 1) / k

/-- The k-bit chunk for sample s: stream bits s × k, …, s × k + k − 1, first one most significant, 0 past the end of
the stream (R112, R115). -/
def chunk (b : List Bool) (k s : Nat) : Sample :=
  (List.range k).foldl (fun v t => (v <<< 1) ||| (BitVec.ofBool (b.getD (s * k + t) false)).setWidth 16) 0#16

/-- The mask 2^k − 1 of the low k bits of an entry (R112). -/
def lowMask (k : Nat) : Sample := BitVec.ofNat 16 (2 ^ k - 1)

/-- An entry with its low k bits replaced and bits [15:k] kept (R112). -/
def replaceLow (x : Sample) (k : Nat) (v : Sample) : Sample := (x &&& ~~~(lowMask k)) ||| v

/-- `pack` of R112: chunk s overwrites the low k bits of entry s. -/
def pack (S : List Sample) (b : List Bool) (k : Nat) : List Sample :=
  S.mapIdx fun s x => if s < numChunks b.length k then replaceLow x k (chunk b k s) else x

/-- `unpack` of R113: the first n bits of the low k bits of successive samples, most significant first. -/
def unpack (S : List Sample) (n k : Nat) : List Bool :=
  (List.range n).map fun q => (S.getD (q / k) 0#16).getLsbD (k - 1 - q % k)

/-- The size tag: L in tw bytes, little-endian when le, big-endian otherwise (R170). -/
def tagBytes (L tw : Nat) (le : Bool) : List Byte :=
  (List.range tw).map fun i => BitVec.ofNat 8 (if le then L >>> (8 * i) else L >>> (8 * (tw - 1 - i)))

/-- The length a tag's bytes stand for (R171). -/
def tagValue (t : List Byte) (le : Bool) : Nat :=
  ((List.range t.length).map fun i =>
    (t.getD i 0#8).toNat * (if le then 2 ^ (8 * i) else 2 ^ (8 * (t.length - 1 - i)))).sum

end Sys2Proof.Machine
end

