-- ==== Sys2Proof/Machine/State.lean ====
section
/-! DEFINITION. What LSBPACK holds (10_state.md), as plain data, and its value right after reset (R53). -/

namespace Sys2Proof.Machine

/-- The engine's phase (R22); STATUS.BUSY is 1 exactly while it is busy (R36). -/
inductive Phase where
  | idle
  | busy
deriving DecidableEq, Repr

/-- The values STATUS.ECODE can hold (60_exceptions.md R201). The reserved codes 9 to 15 are "never produced" (V8), so
they have no constructor. -/
inductive ErrorCode where
  /-- 0, NONE. -/
  | noError
  /-- 1, R202. -/
  | capacityExceeded
  /-- 2, R203. -/
  | unsupportedBitDepth
  /-- 3, R204. -/
  | corruptedSizeTag
  /-- 4, R205. -/
  | insufficientCarrier
  /-- 5, R206. -/
  | invalidK
  /-- 6, R207. -/
  | badLength
  /-- 7, R208. -/
  | range
  /-- 8, R209. -/
  | illegalCommand
deriving DecidableEq, Repr

/-- The stored fields of CFG (R25). The reserved bits read as 0 and ignore writes, so they hold nothing. -/
structure Cfg where
  depth : BitVec 3
  k : BitVec 5
  tagle : Bool
  ie : Bool
deriving DecidableEq, Repr

/-- A RAM: (index, value) pairs, one for each cell written since the last reset, indices strictly rising (log entry 2). A
cell that is not listed has not been written and reads as a free value. PRAM's cells are Host.Cell; SRAM's are the 16-bit
entries R50 gives it (log entry 15). -/
abbrev Memory (w : Nat) := List (Nat × BitVec w)

/-- The canonical form of a RAM: indices strictly rising. An unlisted cell has no value of its own, so no entry can
equal it, and equal RAMs are equal lists (log entry 2). -/
abbrev Memory.wf {w : Nat} (m : Memory w) : Prop := m.Pairwise (fun a b => a.1 < b.1)

/-- Every listed cell exists: its index is below the RAM's size. -/
abbrev Memory.below {w : Nat} (n : Nat) (m : Memory w) : Prop := ∀ c ∈ m, c.1 < n

/-- What the host can do (10_state.md R20): a bus read, a bus write with its four byte strobes (20_memory.md R62, R63),
or drive the rst input (70_reset_and_hazards.md R230). -/
inductive HostEvent where
  | read (addr : Word)
  | write (addr : Word) (data : Word) (strobes : BitVec 4)
  | setRst (level : Bool)
deriving DecidableEq, Repr

/-- Whose turn it is in the one total order of host accesses and engine steps (20_memory.md R74; log entry 4). -/
inductive Turn where
  | host (e : HostEvent)
  | engine
deriving DecidableEq, Repr

/-- What a host event answers on the bus (20_memory.md R62 to R69; log entry 7). -/
inductive BusResponse where
  | data (v : Word)
  | ok
  | busError
deriving DecidableEq, Repr

/-- Everything the spec gives LSBPACK, then the model's own four fields. ID is a constant (R24), STATUS.BUSY and
STATUS.ERR and irq are derived (R36, R38, R52), CMD reads 0 (R34): none of them is stored. -/
structure State where
  /-- R22, R36. -/
  phase : Phase
  /-- The latch of the accepted command word, R22. -/
  pcmd : Word
  /-- R25. -/
  cfg : Cfg
  /-- R30. -/
  nsamp : BitVec 28
  /-- R31. -/
  capn : BitVec 28
  /-- R32. -/
  len : Word
  /-- R33. -/
  nbits : Word
  /-- STATUS.DONE, R37. -/
  done : Bool
  /-- STATUS.HZD, R39. -/
  hzd : Bool
  /-- STATUS.ECODE, R40. -/
  ecode : ErrorCode
  /-- R41. -/
  maxbits : Word
  /-- R42. -/
  tagw : BitVec 3
  /-- R43. -/
  capbytes : Word
  /-- R44. -/
  maxpay : Word
  /-- R45. -/
  req : Word
  /-- R46. -/
  mink : BitVec 5
  /-- R47. -/
  tagval : Word
  /-- NS_MAX and PB_MAX, read as NSMAX and PBMAX (R48); nothing writes them. -/
  params : Params
  /-- The sample RAM, R50. -/
  sram : Memory 16
  /-- The payload RAM, R51. -/
  pram : Memory 8
  /-- The level of the rst input, 70_reset_and_hazards.md R230. -/
  rst : Bool
  /-- MODEL: how many resets there have been, the index of the RAM and PCMD draws (log entry 2). -/
  resetCount : Nat
  /-- MODEL: how many free read values have been drawn (log entry 8). -/
  drawCount : Nat
  /-- MODEL: the turns still to come (log entry 4). -/
  script : List Turn
  /-- MODEL: the answer to the last host event (log entry 7). -/
  response : Option BusResponse
deriving DecidableEq, Repr

/-- Why a step can stop. -/
inductive Fault where
  /-- No agent has a step: the engine "has none while phase = IDLE" (43_control.md R191, V19) and the host's script is
  used up. Raised by `step`; safe. -/
  | noStepEnabled
deriving DecidableEq, Repr

/-- Why a step can be refused. -/
inductive Refusal where
  /-- An instruction that has no meaning yet. Raised by `exec` alone, and by none of its arms now; safe. -/
  | notModelled (mnemonic : String)
deriving DecidableEq, Repr

/-- The machine right after reset (R53): IDLE, CFG = 0x00000101, every other register 0, nothing known of the RAMs or
of PCMD. The model's own fields start at 0, empty and none (log entries 2, 4, 7, 8). -/
def State.reset : State where
  phase := .idle
  pcmd := Config.pcmdAtReset 0
  cfg := { depth := 1, k := 1, tagle := false, ie := false }
  nsamp := 0
  capn := 0
  len := 0
  nbits := 0
  done := false
  hzd := false
  ecode := .noError
  maxbits := 0
  tagw := 0
  capbytes := 0
  maxpay := 0
  req := 0
  mink := 0
  tagval := 0
  params := Config.params
  sram := []
  pram := []
  rst := false
  resetCount := 0
  drawCount := 0
  script := []
  response := none

end Sys2Proof.Machine
end

