-- ==== Sys2Proof/Machine/Flags.lean ====
section
/-! DEFINITION. The STATUS register (10_state.md R35 to R40, R55) and the interrupt output (R52). -/

namespace Sys2Proof.Machine

/-- The number of an error code (60_exceptions.md R201). -/
def errorNumber : ErrorCode → BitVec 4
  | .noError => 0
  | .capacityExceeded => 1
  | .unsupportedBitDepth => 2
  | .corruptedSizeTag => 3
  | .insufficientCarrier => 4
  | .invalidK => 5
  | .badLength => 6
  | .range => 7
  | .illegalCommand => 8

/-- STATUS.BUSY is 1 exactly while phase = BUSY (R36). -/
def State.busy (s : State) : Bool := s.phase == .busy

/-- STATUS.ERR "is not stored": ECODE ≠ 0 (R38). -/
def State.err (s : State) : Bool := errorNumber s.ecode != 0

/-- What a read of STATUS returns: BUSY [0], DONE [1], ERR [2], HZD [3], ECODE [11:8], the rest 0 (R35). -/
def State.statusWord (s : State) : Word :=
  0#20 ++ errorNumber s.ecode ++ 0#4 ++ BitVec.ofBool s.hzd ++ BitVec.ofBool s.err ++ BitVec.ofBool s.done ++
    BitVec.ofBool s.busy

/-- A host write of v to STATUS: "affects only its W1C bits", DONE (bit 1) and HZD (bit 3), in either phase
(R35, R37, R39). Clearing DONE is the host's recovery from a completion (60_exceptions.md R212). -/
def State.writeStatus (v : Word) (s : State) : State :=
  { s with done := s.done && !v.getLsbD 1, hzd := s.hzd && !v.getLsbD 3 }

/-- A host write dropped while BUSY: nothing but STATUS.HZD ← 1 (70_reset_and_hazards.md R234). -/
def State.dropWrite (s : State) : State := { s with hzd := true }

/-- The interrupt output, a level: CFG.IE ∧ STATUS.DONE (R52, 60_exceptions.md R216). -/
def State.irq (s : State) : Bool := s.cfg.ie && s.done

end Sys2Proof.Machine
end

