-- ==== Sys2Proof/Machine/Operands.lean ====
section
/-! DEFINITION. The implicit operands of the commands: CFG's fields (30_encoding.md R96) and the shorthands W, k, N, C, L
and le of 00_scope.md R10. -/

namespace Sys2Proof.Machine

/-- The value a host write of w leaves in CFG: every defined field stores what is written, the reserved bits ignore it
(10_state.md R25, 30_encoding.md R96). -/
def cfgOfWord (w : Word) : Cfg where
  depth := w.extractLsb' 0 3
  k := w.extractLsb' 8 5
  tagle := w.getLsbD 16
  ie := w.getLsbD 17

/-- What a read of CFG returns: (IE << 17) | (TAGLE << 16) | (K << 8) | DEPTH, reserved bits 0 (R25, R96). -/
def cfgToWord (c : Cfg) : Word :=
  0#14 ++ BitVec.ofBool c.ie ++ BitVec.ofBool c.tagle ++ 0#3 ++ c.k ++ 0#5 ++ c.depth

/-- The sample width W = 8 × DEPTH in bits (R10, R26). -/
def State.width (s : State) : Nat := 8 * s.cfg.depth.toNat

/-- k = CFG.K (R10, R27). -/
def State.numLsb (s : State) : Nat := s.cfg.k.toNat

/-- N, the samples present in the sample RAM (R10, R30). -/
def State.numSamples (s : State) : Nat := s.nsamp.toNat

/-- C, the samples the capacity model counts (R10, R31). -/
def State.capSamples (s : State) : Nat := s.capn.toNat

/-- L, the payload length in bytes (R10, R32). -/
def State.payloadLen (s : State) : Nat := s.len.toNat

/-- The num_bits argument of DILV (R33). -/
def State.numBits (s : State) : Nat := s.nbits.toNat

/-- le: the size tag is least-significant byte first (R10, R28). -/
def State.tagLittle (s : State) : Bool := s.cfg.tagle

/-- The commands that use NSAMP and the sample RAM: "ILV, ILVT, DILV, DILVT" (R30, 60_exceptions.md R210). -/
def readsSamples : Instr → Bool
  | .nop => false
  | .capq => false
  | .chkfit => false
  | .chkfitt => false
  | .ilv => true
  | .ilvt => true
  | .dilv => true
  | .dilvt => true

end Sys2Proof.Machine
end

