-- ==== Sys2Proof/Machine/Ops.lean ====
section
/-! DEFINITION. The operations the commands and the bus share: RAM cells, issue, completion and error, the common
checks, the recorded registers, reset. -/

namespace Sys2Proof.Machine

/-! ### RAM cells -/

/-- The value listed for a cell, none when nothing has been written to it since the last reset. -/
def memRead {w : Nat} (m : Memory w) (i : Nat) : Option (BitVec w) :=
  match m with
  | [] => none
  | c :: m => if c.1 = i then some c.2 else memRead m i

/-- Writing one cell, keeping the indices rising. -/
def memWrite {w : Nat} (m : Memory w) (i : Nat) (v : BitVec w) : Memory w :=
  match m with
  | [] => [(i, v)]
  | c :: m =>
    if i < c.1 then (i, v) :: c :: m
    else if i = c.1 then (i, v) :: m
    else c :: memWrite m i v

/-- Writing a list of values to the cells from i on, in increasing order (00_scope.md R9). -/
def memWriteList {w : Nat} (m : Memory w) (i : Nat) (vs : List (BitVec w)) : Memory w :=
  match vs with
  | [] => m
  | v :: vs => memWriteList (memWrite m i v) (i + 1) vs

/-- SRAM[i] (10_state.md R50): what was written, or else the value the last reset left there (R53; log entry 2). -/
def State.sample (s : State) (i : Nat) : Sample :=
  (memRead s.sram i).getD (Config.sramAtReset s.resetCount i)

/-- PRAM[j] (R51), the same way. -/
def State.payloadByte (s : State) (j : Nat) : Byte :=
  (memRead s.pram j).getD (Config.pramAtReset s.resetCount j)

/-- [SRAM[i] for i in [0, n)]. -/
def State.samples (s : State) (n : Nat) : List Sample := (List.range n).map s.sample

/-- [PRAM[j] for j in [0, n)]. -/
def State.payload (s : State) (n : Nat) : List Byte := (List.range n).map s.payloadByte

/-- SRAM[i] ← vs[i] for i < len(vs) (20_memory.md R71). -/
def State.storeSamples (vs : List Sample) (s : State) : State :=
  { s with sram := memWriteList s.sram 0 vs }

/-- PRAM[j] ← vs[j] for j < len(vs) (R71). -/
def State.storePayload (vs : List Byte) (s : State) : State :=
  { s with pram := memWriteList s.pram 0 vs }

/-- SRAM[i] ← v (20_memory.md R67). -/
def State.storeSample (i : Nat) (v : Sample) (s : State) : State :=
  { s with sram := memWrite s.sram i v }

/-- PRAM[j + b] ← v[8b+7 : 8b] for b = 0..3, little-endian byte lanes (20_memory.md R69). -/
def State.storePayloadWord (j : Nat) (v : Word) (s : State) : State :=
  { s with
    pram := memWriteList s.pram j
      [v.extractLsb' 0 8, v.extractLsb' 8 8, v.extractLsb' 16 8, v.extractLsb' 24 8] }

/-- PRAM[j+3] ‖ PRAM[j+2] ‖ PRAM[j+1] ‖ PRAM[j] (20_memory.md R68). -/
def State.payloadWord (s : State) (j : Nat) : Word :=
  s.payloadByte (j + 3) ++ s.payloadByte (j + 2) ++ s.payloadByte (j + 1) ++ s.payloadByte j

/-! ### Issue, completion and error -/

/-- Issue of command word w (43_control.md R190): HZD is not changed, and every word is accepted, legal or not. -/
def State.issue (w : Word) (s : State) : State :=
  { s with pcmd := w, phase := .busy, done := false, ecode := .noError }

/-- The end of every engine step (43_control.md R193): ECODE, DONE ← 1, phase ← IDLE. -/
def State.finish (code : ErrorCode) (s : State) : State :=
  { s with ecode := code, done := true, phase := .idle }

/-- `complete`: the command succeeded (R193). -/
def State.complete (s : State) : State := s.finish .noError

/-- `raise E`, the analogue of taking an exception (R193, 60_exceptions.md R211): the completion with ECODE = E. No
mode changes, nothing is saved and control goes nowhere (R200); what the command wrote before the raise is kept. -/
def State.raise (e : ErrorCode) (s : State) : State := s.finish e

/-! ### Common checks and recorded registers -/

/-- `precheck` (60_exceptions.md R210): the first error that applies, in its fixed order, or none. -/
def precheck (i : Instr) (s : State) : Option ErrorCode :=
  if s.cfg.depth ≠ 1 ∧ s.cfg.depth ≠ 2 then some .unsupportedBitDepth
  else if s.numLsb = 0 ∨ s.width < s.numLsb then some .invalidK
  else if readsSamples i = true ∧ s.params.nsMax < s.numSamples then some .range
  else none

/-- A command that begins with `precheck`: it ends with the error found, or runs its body. -/
def afterPrecheck (i : Instr) (s : State) (body : State → State) : State :=
  match precheck i s with
  | some e => s.raise e
  | none => body s

/-- `capOut(n, k)` (41_capacity.md R141): the three capacity registers. Each value fits (R153; log entry 17). -/
def State.capOut (n k : Nat) (s : State) : State :=
  { s with
    maxbits := BitVec.ofNat 32 (maxbitsOf n k)
    tagw := BitVec.ofNat 3 (tagwOf n k)
    capbytes := BitVec.ofNat 32 (capbytesOf n k) }

/-- x[REQ] ← L, x[MAXPAY] ← pay, x[MINK] ← least (R146, R147, 10_state.md R45). -/
def State.recordFit (pay least : Nat) (s : State) : State :=
  { s with req := s.len, maxpay := BitVec.ofNat 32 pay, mink := BitVec.ofNat 5 least }

/-- x[TAGVAL] ← L' (42_framed.md R173). -/
def State.recordTag (v : Nat) (s : State) : State := { s with tagval := BitVec.ofNat 32 v }

/-- x[LEN] ← L' (42_framed.md R173, 10_state.md R32). -/
def State.setLen (v : Nat) (s : State) : State := { s with len := BitVec.ofNat 32 v }

/-- SRAM[0..N) ← pack(SRAM[0..N), b, k) (40_bit_codec.md R116). Entries that receive no chunk keep their value (R114),
so only those that receive one are written (log entry 13). -/
def State.interleave (b : List Bool) (s : State) : State :=
  s.storeSamples ((pack (s.samples s.numSamples) b s.numLsb).take (numChunks b.length s.numLsb))

/-- bytesOf(unpack(SRAM[0..N), n, k)) (40_bit_codec.md R117, 42_framed.md R173). -/
def State.deinterleave (n : Nat) (s : State) : List Byte :=
  bytesOf (unpack (s.samples s.numSamples) n s.numLsb)

/-! ### Free reads and reset -/

/-- One free read value is drawn (log entry 8). -/
def State.draw (s : State) : State := { s with drawCount := s.drawCount + 1 }

/-- The value that draw hands out. -/
def State.drawn (s : State) : Word := Config.anyRead s.drawCount

/-- The answer to a host event (log entry 7). -/
def State.answer (r : Option BusResponse) (s : State) : State := { s with response := r }

/-- What a reset leaves (70_reset_and_hazards.md R230, 10_state.md R53): every register at its reset value, the engine
IDLE, the RAMs and PCMD drawn anew. The parameters are constants; the model's counters and the turns still to come are
kept. -/
def State.afterReset (s : State) : State :=
  { State.reset with
    pcmd := Config.pcmdAtReset (s.resetCount + 1)
    params := s.params
    resetCount := s.resetCount + 1
    drawCount := s.drawCount
    script := s.script }

/-- The host drives rst to a level. "While rst is asserted, and when it is released, every piece of state takes the value
of R53": both the assertion and the release reset; driving a released rst low again does nothing (R230, log entry 12). -/
def State.driveRst (level : Bool) (s : State) : State :=
  if level || s.rst then { s.afterReset with rst := level } else s

end Sys2Proof.Machine
end

