-- ==== Sys2Proof/Machine/Bus.lean ====
section
/-! DEFINITION. Host accesses: the address map (20_memory.md R61 to R65), the register page (10_state.md R23 to R49), the
two RAM windows (20_memory.md R66 to R69), and the accesses made while BUSY (70_reset_and_hazards.md R234, R235). -/

namespace Sys2Proof.Machine

/-- The registers of the register page (10_state.md R23). -/
inductive Reg where
  | id | cfg | nsamp | capn | len | nbits | cmd | status | maxbits | tagw | capbytes | maxpay | req | mink | tagval
  | nsmax | pbmax
deriving DecidableEq, Repr

/-- What a mapped word address stands for (20_memory.md R61). -/
inductive Target where
  | reg (r : Reg)
  /-- Offsets 0x44 to 0xFC of the register page (10_state.md R49). -/
  | reserved
  /-- SRAM[i]. -/
  | sample (i : Nat)
  /-- PRAM[j..j+3], j a multiple of 4. -/
  | payload (j : Nat)
deriving DecidableEq, Repr

/-- Why a host access gets a bus error (R62 to R64). The host sees one response, whatever the reason (R65). -/
inductive BusFault where
  | misaligned
  | partialStrobes
  | unmapped
deriving DecidableEq, Repr

/-- The register at a byte offset of the register page (10_state.md R23); none for a reserved offset. -/
def regAt (offset : Nat) : Option Reg :=
  match offset with
  | 0x00 => some .id
  | 0x04 => some .cfg
  | 0x08 => some .nsamp
  | 0x0C => some .capn
  | 0x10 => some .len
  | 0x14 => some .nbits
  | 0x18 => some .cmd
  | 0x1C => some .status
  | 0x20 => some .maxbits
  | 0x24 => some .tagw
  | 0x28 => some .capbytes
  | 0x2C => some .maxpay
  | 0x30 => some .req
  | 0x34 => some .mink
  | 0x38 => some .tagval
  | 0x3C => some .nsmax
  | 0x40 => some .pbmax
  | _ => none

/-- First byte address of the sample window (20_memory.md R61). -/
def sampleBase : Nat := 0x40000000

/-- First byte address of the payload window (R61). -/
def payloadBase : Nat := 0x80000000

/-- The address map (R61) with its alignment rule (R62) and its holes (R64), relative to the block's base, taken as 0
(log entry 10). -/
def target (p : Params) (addr : Word) : Except BusFault Target :=
  if addr.toNat % 4 ≠ 0 then .error .misaligned
  else if addr.toNat < 0x100 then
    match regAt addr.toNat with
    | some r => .ok (.reg r)
    | none => .ok .reserved
  else if sampleBase ≤ addr.toNat ∧ addr.toNat < sampleBase + 4 * p.nsMax then
    .ok (.sample ((addr.toNat - sampleBase) / 4))
  else if payloadBase ≤ addr.toNat ∧ addr.toNat < payloadBase + p.pbMax then
    .ok (.payload (addr.toNat - payloadBase))
  else .error .unmapped

/-- ID "always reads 0x4C534250" (10_state.md R24). -/
def idValue : Word := 0x4C534250#32

/-- The value of a register (10_state.md R23 to R48). Narrow registers read zero-extended; CMD reads 0 (R34). -/
def State.readReg (r : Reg) (s : State) : Word :=
  match r with
  | .id => idValue
  | .cfg => cfgToWord s.cfg
  | .nsamp => s.nsamp.setWidth 32
  | .capn => s.capn.setWidth 32
  | .len => s.len
  | .nbits => s.nbits
  | .cmd => 0
  | .status => s.statusWord
  | .maxbits => s.maxbits
  | .tagw => s.tagw.setWidth 32
  | .capbytes => s.capbytes
  | .maxpay => s.maxpay
  | .req => s.req
  | .mink => s.mink.setWidth 32
  | .tagval => s.tagval
  | .nsmax => BitVec.ofNat 32 s.params.nsMax
  | .pbmax => BitVec.ofNat 32 s.params.pbMax

/-- The registers a read while BUSY returns "any value" for, because the engine may be updating them
(70_reset_and_hazards.md R235). -/
def unstableWhileBusy : Reg → Bool
  | .len => true
  | .maxbits => true
  | .tagw => true
  | .capbytes => true
  | .maxpay => true
  | .req => true
  | .mink => true
  | .tagval => true
  | .id => false
  | .cfg => false
  | .nsamp => false
  | .capn => false
  | .nbits => false
  | .cmd => false
  | .status => false
  | .nsmax => false
  | .pbmax => false

/-- A host write to a register while IDLE (10_state.md R23 to R49): RW registers store, NSAMP and CAPN their low 28
bits, CMD issues, STATUS clears its W1C bits, the rest ignore the write. -/
def State.writeReg (r : Reg) (v : Word) (s : State) : State :=
  match r with
  | .cfg => { s with cfg := cfgOfWord v }
  | .nsamp => { s with nsamp := v.setWidth 28 }
  | .capn => { s with capn := v.setWidth 28 }
  | .len => { s with len := v }
  | .nbits => { s with nbits := v }
  | .cmd => s.issue v
  | .status => s.writeStatus v
  | .id => s
  | .maxbits => s
  | .tagw => s
  | .capbytes => s
  | .maxpay => s
  | .req => s
  | .mink => s
  | .tagval => s
  | .nsmax => s
  | .pbmax => s

/-- Whether a read of this target returns any value now (R235; 20_memory.md R66, R68). -/
def State.readsAnyValue (t : Target) (s : State) : Bool :=
  s.busy &&
    match t with
    | .reg r => unstableWhileBusy r
    | .reserved => false
    | .sample _ => true
    | .payload _ => true

/-- The exact value of a target: registers as above, 0 at reserved offsets (10_state.md R49), a sample zero-extended
(R66), four payload bytes in little-endian lanes (R68). -/
def State.readTarget (t : Target) (s : State) : Word :=
  match t with
  | .reg r => s.readReg r
  | .reserved => 0
  | .sample i => (s.sample i).setWidth 32
  | .payload j => s.payloadWord j

/-- MemRead(addr, 4): the value and the state after, or a bus error with no effect (R62, R64, R65). A read has no
side effect (R70); drawing a free value advances the model's counter alone. -/
def State.busRead (addr : Word) (s : State) : Except BusFault (Word × State) :=
  match target s.params addr with
  | .error f => .error f
  | .ok t => if s.readsAnyValue t then .ok (s.drawn, s.draw) else .ok (s.readTarget t, s)

/-- A write to a mapped word while IDLE (10_state.md R49; 20_memory.md R67, R69, R70). -/
def State.writeTarget (t : Target) (v : Word) (s : State) : State :=
  match t with
  | .reg r => s.writeReg r v
  | .reserved => s
  | .sample i => s.storeSample i (v.setWidth 16)
  | .payload j => s.storePayloadWord j v

/-- What a write to a mapped word does in the present phase: STATUS keeps its W1C meaning in both phases, every other
write is dropped while BUSY (70_reset_and_hazards.md R234). -/
def State.acceptWrite (t : Target) (v : Word) (s : State) : State :=
  if t = .reg .status then s.writeStatus v
  else if s.busy then s.dropWrite
  else s.writeTarget t v

/-- MemWrite(addr, 4, v) with its byte strobes: the state after, or a bus error with no effect (R62 to R65). -/
def State.busWrite (addr v : Word) (strobes : BitVec 4) (s : State) : Except BusFault State :=
  match target s.params addr with
  | .error f => .error f
  | .ok t => if strobes = 0xF#4 then .ok (s.acceptWrite t v) else .error .partialStrobes

/-- An access while rst is asserted: "a read returns any value, a write has no effect, and neither is answered with a
bus error that the model can rely on" (70_reset_and_hazards.md R231; log entry 12). -/
def State.accessInReset (whenOk : BusResponse) (s : State) : State :=
  s.draw.answer (some (if Config.errorInReset s.drawCount then .busError else whenOk))

/-- One host event. A bus error is answered to the host and changes nothing else (R65). -/
def State.hostEvent (e : HostEvent) (s : State) : State :=
  match e with
  | .read addr =>
    if s.rst then s.accessInReset (.data s.drawn)
    else
      match s.busRead addr with
      | .ok (v, t) => t.answer (some (.data v))
      | .error _ => s.answer (some .busError)
  | .write addr v strobes =>
    if s.rst then s.accessInReset .ok
    else
      match s.busWrite addr v strobes with
      | .ok t => t.answer (some .ok)
      | .error _ => s.answer (some .busError)
  | .setRst level => (s.driveRst level).answer none

end Sys2Proof.Machine
end

