-- ==== Sys2Proof/Machine/Capacity.lean ====
section
/-! DEFINITION. The capacity validator's commands (41_capacity.md R148 to R150). -/

namespace Sys2Proof.Machine

/-- CAPQ (R148). -/
def execCapq (s : State) : Host.Outcome State Fault Refusal :=
  .next <| afterPrecheck .capq s fun s => (s.capOut s.capSamples s.numLsb).complete

/-- CHKFIT (R149): the fit test with no size tag. -/
def execChkfit (s : State) : Host.Outcome State Fault Refusal :=
  .next <| afterPrecheck .chkfit s fun s =>
    let t := (s.capOut s.capSamples s.numLsb).recordFit
      (maxpayCap 0 s.capSamples s.numLsb)
      (minkCap s.payloadLen false s.capSamples s.width)
    if fitCap s.payloadLen 0 s.capSamples s.numLsb then t.complete else t.raise .capacityExceeded

/-- CHKFITT (R150): the fit test with the size tag. -/
def execChkfitt (s : State) : Host.Outcome State Fault Refusal :=
  .next <| afterPrecheck .chkfitt s fun s =>
    let tw := tagwOf s.capSamples s.numLsb
    let t := (s.capOut s.capSamples s.numLsb).recordFit
      (maxpayCap tw s.capSamples s.numLsb)
      (minkCap s.payloadLen true s.capSamples s.width)
    if fitCap s.payloadLen tw s.capSamples s.numLsb then t.complete else t.raise .capacityExceeded

end Sys2Proof.Machine
end

