-- ==== Sys2Proof/Machine/Codec.lean ====
section
/-! DEFINITION. The raw codec commands (40_bit_codec.md R116, R117). -/

namespace Sys2Proof.Machine

/-- ILV (R116): PRAM[0..L) into the low k bits of SRAM[0..N), with no size tag. -/
def execIlv (s : State) : Host.Outcome State Fault Refusal :=
  .next <| afterPrecheck .ilv s fun s =>
    let t := (s.capOut s.capSamples s.numLsb).recordFit
      (maxpayAll 0 s.capSamples s.numSamples s.numLsb)
      (minkAll s.payloadLen false s.capSamples s.numSamples s.width)
    if fitCap s.payloadLen 0 s.capSamples s.numLsb ∧ fitCarrier s.payloadLen 0 s.numSamples s.numLsb then
      (t.interleave (bitsOf (s.payload s.payloadLen))).complete
    else t.raise .capacityExceeded

/-- DILV (R117): NBITS bits of SRAM[0..N) into PRAM[0..NBITS/8). -/
def execDilv (s : State) : Host.Outcome State Fault Refusal :=
  .next <| afterPrecheck .dilv s fun s =>
    if s.numBits % 8 ≠ 0 then s.raise .badLength
    else if s.numSamples * s.numLsb < s.numBits then s.raise .insufficientCarrier
    else (s.storePayload (s.deinterleave s.numBits)).complete

end Sys2Proof.Machine
end

