-- ==== Sys2Proof/Machine/Control.lean ====
section
/-! DEFINITION. NOP and the illegal command words (43_control.md R191, R192). -/

namespace Sys2Proof.Machine

/-- NOP: complete, with no check and no other effect (R192). -/
def execNop (s : State) : Host.Outcome State Fault Refusal := .next s.complete

/-- An illegal command word: "Nothing but STATUS changes" (60_exceptions.md R209, 30_encoding.md R92, R93). -/
def execIllegal (s : State) : Host.Outcome State Fault Refusal := .next (s.raise .illegalCommand)

end Sys2Proof.Machine
end

