-- ==== Sys2Proof/Machine/Framed.lean ====
section
/-! DEFINITION. The tagged codec commands (42_framed.md R172, R173). -/

namespace Sys2Proof.Machine

/-- ILVT (R172): the size tag, then PRAM[0..L), as one stream into the low k bits of SRAM[0..N). -/
def execIlvt (s : State) : Host.Outcome State Fault Refusal :=
  .next <| afterPrecheck .ilvt s fun s =>
    let tw := tagwOf s.capSamples s.numLsb
    let t := (s.capOut s.capSamples s.numLsb).recordFit
      (maxpayAll tw s.capSamples s.numSamples s.numLsb)
      (minkAll s.payloadLen true s.capSamples s.numSamples s.width)
    if fitCap s.payloadLen tw s.capSamples s.numLsb ∧ fitCarrier s.payloadLen tw s.numSamples s.numLsb then
      (t.interleave (bitsOf (tagBytes s.payloadLen tw s.tagLittle ++ s.payload s.payloadLen))).complete
    else t.raise .capacityExceeded

/-- The length DILVT reads from the size tag (R173): the first tagw(C, k) bytes of the stream. -/
def State.declaredLen (s : State) : Nat :=
  tagValue (s.deinterleave (8 * tagwOf s.capSamples s.numLsb)) s.tagLittle

/-- DILVT (R173): the tag, its two checks, then the payload into PRAM[0..L') and L' into LEN. -/
def execDilvt (s : State) : Host.Outcome State Fault Refusal :=
  .next <| afterPrecheck .dilvt s fun s =>
    let tw := tagwOf s.capSamples s.numLsb
    let t := s.capOut s.capSamples s.numLsb
    if s.numSamples * s.numLsb < 8 * tw then t.raise .insufficientCarrier
    else
      let lp := s.declaredLen
      let u := t.recordTag lp
      if capbytesOf s.capSamples s.numLsb < lp + tw then u.raise .corruptedSizeTag
      else if s.numSamples * s.numLsb < 8 * (tw + lp) then u.raise .insufficientCarrier
      else ((u.storePayload ((s.deinterleave (8 * (tw + lp))).drop tw)).setLen lp).complete

end Sys2Proof.Machine
end

