-- ==== Sys2Proof/Machine/Dispatch.lean ====
section
/-! DEFINITION. One arm per command: the engine step of 43_control.md R191 for a legal command word. -/

namespace Sys2Proof.Machine

def exec (i : Instr) (s : State) : Host.Outcome State Fault Refusal :=
  match i with
  | .nop => Sys2Proof.Machine.execNop s
  | .capq => Sys2Proof.Machine.execCapq s
  | .chkfit => Sys2Proof.Machine.execChkfit s
  | .chkfitt => Sys2Proof.Machine.execChkfitt s
  | .ilv => Sys2Proof.Machine.execIlv s
  | .ilvt => Sys2Proof.Machine.execIlvt s
  | .dilv => Sys2Proof.Machine.execDilv s
  | .dilvt => Sys2Proof.Machine.execDilvt s

end Sys2Proof.Machine
end

