-- ==== Sys2Proof/Machine/Step.lean ====
section
/-! DEFINITION. One step of the machine: the next turn of the script, a host event or an engine step (20_memory.md R74,
43_control.md R191, 70_reset_and_hazards.md R238). -/

namespace Sys2Proof.Machine

/-- The engine step (R191): the command latched in PCMD runs, an illegal word ends with ILLEGAL_COMMAND. -/
def engineStep (s : State) : Host.Outcome State Fault Refusal :=
  match decode s.pcmd with
  | .ok i => Sys2Proof.Machine.exec i s
  | .error _ => execIllegal s

/-- One step. A turn is taken off the script first. An engine turn while IDLE passes with no effect, for the engine "has
none while phase = IDLE" (R191; log entry 5). With no turn left the engine moves if BUSY (R238; log entry 4), and nothing
can move if IDLE (V19; log entry 6). -/
def step (s : State) : Host.Outcome State Fault Refusal :=
  match s.script with
  | [] =>
    match s.phase with
    | .busy => engineStep s
    | .idle => .fault .noStepEnabled
  | .engine :: rest =>
    match s.phase with
    | .busy => engineStep { s with script := rest }
    | .idle => .next { s with script := rest }
  | .host e :: rest => .next ({ s with script := rest }.hostEvent e)

/-- s with the command word of those bits issued (43_control.md R190) and the engine's turn next: the next step runs it
(log entry 14). -/
def State.withFetchWord (s : State) (nbits w : Nat) : State :=
  { s.issue (BitVec.ofNat 32 (tableWord nbits w)) with script := .engine :: s.script }

end Sys2Proof.Machine
end

