-- ==== Sys2Proof/Machine/HostProgram.lean ====
section
/-! DEFINITION. The host program notation of 30_encoding.md R98 and R99, as functions that build turns. -/

namespace Sys2Proof.Machine

/-- The byte offset of a register in the register page (10_state.md R23). -/
def regOffset : Reg → Nat
  | .id => 0x00
  | .cfg => 0x04
  | .nsamp => 0x08
  | .capn => 0x0C
  | .len => 0x10
  | .nbits => 0x14
  | .cmd => 0x18
  | .status => 0x1C
  | .maxbits => 0x20
  | .tagw => 0x24
  | .capbytes => 0x28
  | .maxpay => 0x2C
  | .req => 0x30
  | .mink => 0x34
  | .tagval => 0x38
  | .nsmax => 0x3C
  | .pbmax => 0x40

/-- The bus address of a register. -/
def regAddr (r : Reg) : Word := BitVec.ofNat 32 (regOffset r)

/-- `wr addr, v`, a whole-word write (R98). -/
def hostWr (addr v : Word) : Turn := .host (.write addr v 0xF#4)

/-- `rd addr` (R98). -/
def hostRd (addr : Word) : Turn := .host (.read addr)

/-- `cmd MNEMONIC`: write the command's word to CMD (R99). -/
def hostCmd (i : Instr) : Turn := hostWr (regAddr .cmd) (encode i)

/-- `wait`: read STATUS until BUSY is 0. The host sees BUSY = 1 any number of times, then the engine steps, then the
last read sees BUSY = 0 (R99, 70_reset_and_hazards.md R238). -/
def hostWait (polls : Nat) : List Turn :=
  List.replicate polls (hostRd (regAddr .status)) ++ [.engine, hostRd (regAddr .status)]

/-- `ack`: clear DONE (R99). -/
def hostAck : Turn := hostWr (regAddr .status) 0x00000002#32

/-- `ackh`: clear HZD (R99). -/
def hostAckh : Turn := hostWr (regAddr .status) 0x00000008#32

/-- `cfg depth=d, k=k, tagle=t, ie=e` (R99). -/
def hostCfg (c : Cfg) : Turn := hostWr (regAddr .cfg) (cfgToWord c)

/-- `ws i, v` (R99). -/
def hostWs (i : Nat) (v : Word) : Turn := hostWr (BitVec.ofNat 32 (sampleBase + 4 * i)) v

/-- `rs i` (R99). -/
def hostRs (i : Nat) : Turn := hostRd (BitVec.ofNat 32 (sampleBase + 4 * i))

/-- `wp m, v` (R99). -/
def hostWp (m : Nat) (v : Word) : Turn := hostWr (BitVec.ofNat 32 (payloadBase + 4 * m)) v

/-- `rp m` (R99). -/
def hostRp (m : Nat) : Turn := hostRd (BitVec.ofNat 32 (payloadBase + 4 * m))

end Sys2Proof.Machine
end

