-- ==== Sys2Proof/Safety.lean ====
section
/-! DEFINITION. The invariant of every run and the frames the claims are stated in. -/

namespace Sys2Proof.Machine

/-- What holds of every state a run reaches from a good one: the parameters are admitted (00_scope.md R5), both RAMs are
in canonical form and within their sizes (20_memory.md R71), while BUSY the STATUS fields are those of an issue (43_control.md
R190), an asserted reset holds the engine IDLE (70_reset_and_hazards.md R230), and the result registers stay in their bounds
and agree with one another (10_state.md R41 to R46, 41_capacity.md R142, R143, R153). -/
structure State.Inv (s : State) : Prop where
  paramsWf : s.params.wf
  sramWf : Memory.wf s.sram
  sramBelow : Memory.below s.params.nsMax s.sram
  pramWf : Memory.wf s.pram
  pramBelow : Memory.below s.params.pbMax s.pram
  busyClear : s.phase = .busy → s.done = false ∧ s.ecode = .noError
  resetIdle : s.rst = true → s.phase = .idle
  maxbitsLe : s.maxbits.toNat ≤ (2 ^ 28 - 1) * 16
  tagwOfMaxbits : s.tagw.toNat = (bitLength s.maxbits.toNat + 7) / 8
  capbytesOfMaxbits : s.capbytes.toNat = s.maxbits.toNat / 8
  maxpayLe : s.maxpay.toNat ≤ (2 ^ 28 - 1) * 16 / 8
  minkLe : s.mink.toNat ≤ 16

/-- The state passes every common check of a command: legal DEPTH, 1 ≤ K ≤ 8 × DEPTH, and NSAMP ≤ NS_MAX for the commands
that use the sample RAM (10_state.md R26, R27, R30). -/
structure LegalStart (i : Instr) (s : State) : Prop where
  depth : s.cfg.depth.toNat = 1 ∨ s.cfg.depth.toNat = 2
  kPos : 1 ≤ s.cfg.k.toNat
  kLe : s.cfg.k.toNat ≤ 8 * s.cfg.depth.toNat
  samples : i ∈ [Instr.ilv, .ilvt, .dilv, .dilvt] → s.nsamp.toNat ≤ s.params.nsMax

/-- t is at the end of a command with this code (43_control.md R193): phase IDLE, DONE 1, ECODE the code. -/
structure State.Ended (t : State) (code : ErrorCode) : Prop where
  phase : t.phase = .idle
  done : t.done = true
  ecode : t.ecode = code

/-- The state no command writes: its inputs other than LEN (30_encoding.md R95), HZD, the parameters, the pins, PCMD, and
the model's own fields. -/
structure State.SameInputs (s t : State) : Prop where
  pcmd : t.pcmd = s.pcmd
  cfg : t.cfg = s.cfg
  nsamp : t.nsamp = s.nsamp
  capn : t.capn = s.capn
  nbits : t.nbits = s.nbits
  hzd : t.hzd = s.hzd
  params : t.params = s.params
  rst : t.rst = s.rst
  resetCount : t.resetCount = s.resetCount
  drawCount : t.drawCount = s.drawCount
  script : t.script = s.script
  response : t.response = s.response

/-- MAXBITS, TAGW and CAPBYTES are unchanged. -/
structure State.SameCapacity (s t : State) : Prop where
  maxbits : t.maxbits = s.maxbits
  tagw : t.tagw = s.tagw
  capbytes : t.capbytes = s.capbytes

/-- REQ, MAXPAY and MINK are unchanged. -/
structure State.SameReport (s t : State) : Prop where
  req : t.req = s.req
  maxpay : t.maxpay = s.maxpay
  mink : t.mink = s.mink

/-- Every SRAM entry reads as before. -/
def State.SameSamples (s t : State) : Prop := ∀ i, t.sample i = s.sample i

/-- Every PRAM byte reads as before. -/
def State.SamePayload (s t : State) : Prop := ∀ j, t.payloadByte j = s.payloadByte j

/-- MAXBITS, TAGW and CAPBYTES hold the capacity of the carrier CAPN, K of s (41_capacity.md R140 to R143). -/
structure State.CapacityRecorded (s t : State) : Prop where
  maxbits : t.maxbits.toNat = s.capn.toNat * s.cfg.k.toNat
  tagw : t.tagw.toNat = (bitLength (s.capn.toNat * s.cfg.k.toNat) + 7) / 8
  capbytes : t.capbytes.toNat = s.capn.toNat * s.cfg.k.toNat / 8

/-- The size-tag width of the carrier CAPN, K of s (R142). -/
def State.tagWidth (s : State) : Nat := (bitLength (s.capn.toNat * s.cfg.k.toNat) + 7) / 8

/-- One bound of R147 at k': the payload and, for a tagged command, the tag of the width it has at k' for n samples, fit
the m × k' bits of m samples (R144 with m = n, R145 with m = N). -/
def fitsAt (L : Nat) (tagged : Bool) (n m k : Nat) : Prop :=
  8 * (L + if tagged then (bitLength (n * k) + 7) / 8 else 0) ≤ m * k

/-- v is the smallest k' in 1..W with the property, or 0 when there is none (R147). -/
def LeastOrZero (W : Nat) (p : Nat → Prop) (v : Nat) : Prop :=
  (1 ≤ v ∧ v ≤ W ∧ p v ∧ ∀ k, 1 ≤ k → k < v → ¬ p k) ∨ (v = 0 ∧ ∀ k, 1 ≤ k → k ≤ W → ¬ p k)

/-- Bit p of the stream that is the bytes B, most significant bit first, byte 0 first (40_bit_codec.md R110). -/
def streamBit (B : List Byte) (p : Nat) : Bool := (B.getD (p / 8) 0#8).getLsbD (7 - p % 8)

/-- The low k bits of SRAM[0..N) of t hold the first 8 × len(B) stream bits of B, zero-padded in the last receiving entry,
and every other bit of every entry is that of s (40_bit_codec.md R112, R114, R115). -/
structure State.Interleaved (s t : State) (B : List Byte) (k N : Nat) : Prop where
  packed : ∀ i b, i < N → b < k → i * k < 8 * B.length →
    (t.sample i).getLsbD (k - 1 - b) = (if i * k + b < 8 * B.length then streamBit B (i * k + b) else false)
  highKept : ∀ i b, k ≤ b → (t.sample i).getLsbD b = (s.sample i).getLsbD b
  restKept : ∀ i, N ≤ i ∨ 8 * B.length ≤ i * k → t.sample i = s.sample i

/-- PRAM[0..n) of t holds the n bytes of the stream in SRAM[0..N) of s that begin at stream bit `start`, and every other
PRAM byte is unchanged (40_bit_codec.md R113, R111). -/
structure State.Recovered (s t : State) (start n k : Nat) : Prop where
  bytes : ∀ j b, j < n → b < 8 →
    (t.payloadByte j).getLsbD (7 - b) =
      (s.sample ((start + 8 * j + b) / k)).getLsbD (k - 1 - (start + 8 * j + b) % k)
  restKept : ∀ j, n ≤ j → t.payloadByte j = s.payloadByte j

/-- T is the list of the size-tag bytes that stand first in the stream of SRAM (42_framed.md R173: the first 8 × tag_width
bits). -/
structure State.TagIs (s : State) (T : List Byte) : Prop where
  length : T.length = s.tagWidth
  bits : ∀ i b, i < s.tagWidth → b < 8 →
    (T.getD i 0#8).getLsbD (7 - b) =
      (s.sample ((8 * i + b) / s.cfg.k.toNat)).getLsbD (s.cfg.k.toNat - 1 - (8 * i + b) % s.cfg.k.toNat)

/-- The host's accesses one after another, with no engine step among them (20_memory.md R74). -/
def hostEvents (es : List HostEvent) (s : State) : State := es.foldl (fun s e => s.hostEvent e) s

/-- The event is a bus access, not a change of rst. -/
def HostEvent.isAccess : HostEvent → Bool
  | .read _ => true
  | .write _ _ _ => true
  | .setRst _ => false

/-- The address is mapped and aligned (20_memory.md R61, R62): a word of the register page, of the sample window or of
the payload window. -/
abbrev MappedWord (p : Params) (a : Nat) : Prop :=
  a % 4 = 0 ∧
    (a < 0x100 ∨ (0x40000000 ≤ a ∧ a < 0x40000000 + 4 * p.nsMax) ∨ (0x80000000 ≤ a ∧ a < 0x80000000 + p.pbMax))

end Sys2Proof.Machine
end

