-- ==== Sys2Proof/Certificates/Slice0/Obligations.lean ====
section
/-! DEFINITION. What is claimed of LSBPACK, from the numbered rules of spec/. -/

open Sys2Proof Sys2Proof.Machine

/-! ### Encoding -/

/-- R91: every command's word decodes to it. -/
def Obligations.DecodeOfEncode : Prop := ∀ i : Instr, i.wf = true → decode (encode i) = .ok i

/-- R94, whole: the decoding rule on every 32-bit word. -/
def Obligations.DecodingRule : Prop :=
  ∀ w : Word,
    (2 ^ 8 ≤ w.toNat ↔ decode w = .error .reservedBits) ∧
    (8 ≤ w.toNat ∧ w.toNat < 2 ^ 8 ↔ decode w = .error .reservedOpcode) ∧
    (decode w = .ok .nop ↔ w = 0x00000000#32) ∧
    (decode w = .ok .capq ↔ w = 0x00000001#32) ∧
    (decode w = .ok .chkfit ↔ w = 0x00000002#32) ∧
    (decode w = .ok .chkfitt ↔ w = 0x00000003#32) ∧
    (decode w = .ok .ilv ↔ w = 0x00000004#32) ∧
    (decode w = .ok .ilvt ↔ w = 0x00000005#32) ∧
    (decode w = .ok .dilv ↔ w = 0x00000006#32) ∧
    (decode w = .ok .dilvt ↔ w = 0x00000007#32)

/-- Words written out bit by bit from R90 and R91, one per family, and three illegal ones (R92, R93). -/
def Obligations.WrittenWordsDecode : Prop :=
  decode 0b00000000000000000000000000000000#32 = .ok .nop ∧
  decode 0b00000000000000000000000000000001#32 = .ok .capq ∧
  decode 0b00000000000000000000000000000011#32 = .ok .chkfitt ∧
  decode 0b00000000000000000000000000000100#32 = .ok .ilv ∧
  decode 0b00000000000000000000000000000111#32 = .ok .dilvt ∧
  decode 0b00000000000000000000000000001000#32 = .error .reservedOpcode ∧
  decode 0b00000000000000000000000100000100#32 = .error .reservedBits ∧
  decode 0b11111111111111111111111111111111#32 = .error .reservedBits

/-! ### The step -/

/-- R191: while BUSY the engine's step is the rule of the command latched in PCMD, when its turn comes and when no turn
is left. -/
def Obligations.StepRunsCommand : Prop :=
  ∀ (s : State) (i : Instr), s.phase = .busy → decode s.pcmd = .ok i →
    (s.script = [] → step s = exec i s) ∧
    ∀ rest, s.script = .engine :: rest → step s = exec i { s with script := rest }

/-- R209, R92, R93: an illegal word completes with ILLEGAL_COMMAND, whose number is 8, and nothing but STATUS changes. -/
def Obligations.IllegalWordEnds : Prop :=
  ∀ s : State, s.phase = .busy → 8 ≤ s.pcmd.toNat →
    (s.script = [] →
      step s = .next { s with phase := .idle, done := true, ecode := .illegalCommand }) ∧
    (∀ rest, s.script = .engine :: rest →
      step s = .next { s with script := rest, phase := .idle, done := true, ecode := .illegalCommand }) ∧
    errorNumber .illegalCommand = 8#4

/-- The model never refuses, and stops only where no agent has a step: IDLE (R191) with no turn left (V19; the list of
turns is the model's, log entries 4 and 6). -/
def Obligations.StopsOnlyWhenNothingCanMove : Prop :=
  ∀ s : State,
    ((∃ t, step s = .next t) ↔ ¬(s.phase = .idle ∧ s.script = [])) ∧
    (s.phase = .idle → s.script = [] → step s = .fault .noStepEnabled) ∧
    ∀ r, step s ≠ .refused r

/-- R238, R191: with only bus accesses still to come, every issued command completes, after at most as many steps as there
are turns left and one more (the list of turns is the model's, log entry 4). -/
def Obligations.EveryCommandCompletes : Prop :=
  ∀ s : State, s.phase = .busy → (∀ e, Turn.host e ∈ s.script → e.isAccess = true) →
    ∃ (n : Nat) (t : State), n ≤ s.script.length + 1 ∧ Sys2Proof.core.run n s = .next t ∧
      t.phase = .idle ∧ t.done = true

/-- R74: a host event is one turn and leaves the turns after it as they are; an engine turn while IDLE passes with no
effect (the model's choice, log entry 5). -/
def Obligations.HostTurns : Prop :=
  ∀ (s : State) (rest : List Turn),
    (∀ e, s.script = .host e :: rest →
      ∃ t, step s = .next t ∧ t = ({ s with script := rest } : State).hostEvent e ∧ t.script = rest) ∧
    (s.phase = .idle → s.script = .engine :: rest → step s = .next { s with script := rest })

/-! ### Issue and the registers on the bus -/

/-- R190: a CMD write while IDLE issues, whatever the word; while BUSY it does not (what a dropped write answers on the bus
is left open here: log entry 9). -/
def Obligations.IssueByCmdWrite : Prop :=
  ∀ (s : State) (w : Word), s.rst = false →
    (s.phase = .idle →
      s.hostEvent (.write 0x00000018#32 w 0xF#4) =
        { s with pcmd := w, phase := .busy, done := false, ecode := .noError, response := some .ok }) ∧
    (s.phase = .busy →
      ∃ r, s.hostEvent (.write 0x00000018#32 w 0xF#4) = { s with hzd := true, response := r })

/-- R35, R37, R39: a write to STATUS clears the W1C bits given as 1, in either phase, and does nothing else. -/
def Obligations.StatusWriteClears : Prop :=
  ∀ (s : State) (v : Word), s.rst = false →
    s.hostEvent (.write 0x0000001C#32 v 0xF#4) =
      { s with
        done := if v.getLsbD 1 then false else s.done
        hzd := if v.getLsbD 3 then false else s.hzd
        response := some .ok }

/-- R35, R36, R38, R40, R201: what a read of STATUS returns, in either phase, and the numbers of the error codes. -/
def Obligations.StatusReadFields : Prop :=
  ∀ s : State, s.rst = false →
    ∃ v : Word, s.hostEvent (.read 0x0000001C#32) = { s with response := some (.data v) } ∧
      (v.getLsbD 0 = true ↔ s.phase = .busy) ∧
      v.getLsbD 1 = s.done ∧
      (v.getLsbD 2 = true ↔ s.ecode ≠ .noError) ∧
      v.getLsbD 3 = s.hzd ∧
      v.extractLsb' 4 4 = 0#4 ∧
      v.extractLsb' 8 4 = errorNumber s.ecode ∧
      v.extractLsb' 12 20 = 0#20 ∧
      [ErrorCode.noError, .capacityExceeded, .unsupportedBitDepth, .corruptedSizeTag, .insufficientCarrier, .invalidK,
        .badLength, .range, .illegalCommand].map errorNumber = [0#4, 1#4, 2#4, 3#4, 4#4, 5#4, 6#4, 7#4, 8#4]

/-- R234: while BUSY every write but one to STATUS is dropped and sets HZD; a write to STATUS keeps its W1C meaning in both
phases; a write that gets a bus error does not set HZD. (What a dropped write answers on the bus is left open here: log
entry 9.) -/
def Obligations.BusyWritesDropped : Prop :=
  ∀ (s : State) (a v : Word), s.rst = false →
    (s.phase = .busy → MappedWord s.params a.toNat → a ≠ 0x0000001C#32 →
      ∃ r, s.hostEvent (.write a v 0xF#4) = { s with hzd := true, response := r }) ∧
    (a = 0x0000001C#32 →
      s.hostEvent (.write a v 0xF#4) =
        { s with
          done := if v.getLsbD 1 then false else s.done
          hzd := if v.getLsbD 3 then false else s.hzd
          response := some .ok }) ∧
    (¬MappedWord s.params a.toNat →
      s.hostEvent (.write a v 0xF#4) = { s with response := some .busError })

/-- R63, R64, and the misaligned case of R62: a misaligned, unmapped or partial-strobe access is answered with a bus error
and changes nothing. -/
def Obligations.BusErrorsChangeNothing : Prop :=
  ∀ (s : State) (a : Word), s.rst = false →
    (¬MappedWord s.params a.toNat →
      s.hostEvent (.read a) = { s with response := some .busError } ∧
      ∀ v strobes, s.hostEvent (.write a v strobes) = { s with response := some .busError }) ∧
    (∀ v strobes, strobes ≠ 0xF#4 → s.hostEvent (.write a v strobes) = { s with response := some .busError })

/-- R70: a read has no side effect; only the answer and the model's draw counter move. -/
def Obligations.ReadsHaveNoSideEffect : Prop :=
  ∀ (s : State) (a : Word), s.rst = false →
    ∃ (r : BusResponse) (d : Nat), s.hostEvent (.read a) = { s with response := some r, drawCount := d } ∧
      (MappedWord s.params a.toNat → ∃ v, r = .data v)

/-- R23, R24, R34, R48: what each register reads as while IDLE. -/
def Obligations.RegisterReads : Prop :=
  ∀ s : State, s.rst = false → s.phase = .idle →
    (s.hostEvent (.read 0x00000000#32)).response = some (.data 0x4C534250#32) ∧
    (s.hostEvent (.read 0x00000008#32)).response = some (.data (s.nsamp.setWidth 32)) ∧
    (s.hostEvent (.read 0x0000000C#32)).response = some (.data (s.capn.setWidth 32)) ∧
    (s.hostEvent (.read 0x00000010#32)).response = some (.data s.len) ∧
    (s.hostEvent (.read 0x00000014#32)).response = some (.data s.nbits) ∧
    (s.hostEvent (.read 0x00000018#32)).response = some (.data 0#32) ∧
    (s.hostEvent (.read 0x00000020#32)).response = some (.data s.maxbits) ∧
    (s.hostEvent (.read 0x00000024#32)).response = some (.data (s.tagw.setWidth 32)) ∧
    (s.hostEvent (.read 0x00000028#32)).response = some (.data s.capbytes) ∧
    (s.hostEvent (.read 0x0000002C#32)).response = some (.data s.maxpay) ∧
    (s.hostEvent (.read 0x00000030#32)).response = some (.data s.req) ∧
    (s.hostEvent (.read 0x00000034#32)).response = some (.data (s.mink.setWidth 32)) ∧
    (s.hostEvent (.read 0x00000038#32)).response = some (.data s.tagval) ∧
    (s.hostEvent (.read 0x0000003C#32)).response = some (.data (BitVec.ofNat 32 s.params.nsMax)) ∧
    (s.hostEvent (.read 0x00000040#32)).response = some (.data (BitVec.ofNat 32 s.params.pbMax))

/-- R25, R96: a write to CFG while IDLE stores every defined field as written and nothing else; a read gives the fields
back with the reserved bits 0. -/
def Obligations.CfgWriteReadBack : Prop :=
  ∀ (s : State) (w : Word), s.rst = false → s.phase = .idle →
    ∃ t : State, s.hostEvent (.write 0x00000004#32 w 0xF#4) = t ∧
      t = { s with cfg := t.cfg, response := some .ok } ∧
      t.cfg.depth = w.extractLsb' 0 3 ∧ t.cfg.k = w.extractLsb' 8 5 ∧
      t.cfg.tagle = w.getLsbD 16 ∧ t.cfg.ie = w.getLsbD 17 ∧
      t.hostEvent (.read 0x00000004#32) = { t with response := some (.data (w &&& 0x00031F07#32)) }

/-- R30, R31, R32, R33: writes to the other four RW registers while IDLE; NSAMP and CAPN keep bits [27:0]. -/
def Obligations.CountWrites : Prop :=
  ∀ (s : State) (w : Word), s.rst = false → s.phase = .idle →
    s.hostEvent (.write 0x00000008#32 w 0xF#4) = { s with nsamp := w.extractLsb' 0 28, response := some .ok } ∧
    s.hostEvent (.write 0x0000000C#32 w 0xF#4) = { s with capn := w.extractLsb' 0 28, response := some .ok } ∧
    s.hostEvent (.write 0x00000010#32 w 0xF#4) = { s with len := w, response := some .ok } ∧
    s.hostEvent (.write 0x00000014#32 w 0xF#4) = { s with nbits := w, response := some .ok }

/-- R49: reserved offsets read 0 and ignore writes, read-only registers and the read-only fields of STATUS ignore writes,
none with a bus error; while BUSY a write to such an offset or register sets HZD. -/
def Obligations.ReadOnlyWritesIgnored : Prop :=
  ∀ (s : State) (a v : Word), s.rst = false → a.toNat % 4 = 0 →
    (0x44 ≤ a.toNat → a.toNat ≤ 0xFC → s.hostEvent (.read a) = { s with response := some (.data 0#32) }) ∧
    (a.toNat = 0 ∨ (0x20 ≤ a.toNat ∧ a.toNat ≤ 0xFC) →
      (s.phase = .idle → s.hostEvent (.write a v 0xF#4) = { s with response := some .ok }) ∧
      (s.phase = .busy → ∃ r, r ≠ .busError ∧
        s.hostEvent (.write a v 0xF#4) = { s with hzd := true, response := some r })) ∧
    ((s.hostEvent (.write 0x0000001C#32 v 0xF#4)).phase = s.phase ∧
      (s.hostEvent (.write 0x0000001C#32 v 0xF#4)).ecode = s.ecode)

/-- R235: what reads return while BUSY. The exact registers; 0 for CMD and the reserved offsets; some value for LEN, the
result registers and both RAM windows (that it is a free one is BusyReadsAreFree). No read disturbs the command: but for the
answer and the model's draw counter, nothing changes. -/
def Obligations.BusyReads : Prop :=
  ∀ (s : State) (a : Word), s.rst = false → s.phase = .busy → MappedWord s.params a.toNat →
    (s.Inv → a = 0x0000001C#32 →
      s.hostEvent (.read a) = { s with response := some (.data (if s.hzd then 0x00000009#32 else 0x00000001#32)) }) ∧
    (a = 0x00000000#32 → s.hostEvent (.read a) = { s with response := some (.data 0x4C534250#32) }) ∧
    (a = 0x00000004#32 → s.hostEvent (.read a) = { s with response := some (.data (cfgToWord s.cfg)) }) ∧
    (a = 0x00000008#32 → s.hostEvent (.read a) = { s with response := some (.data (s.nsamp.setWidth 32)) }) ∧
    (a = 0x0000000C#32 → s.hostEvent (.read a) = { s with response := some (.data (s.capn.setWidth 32)) }) ∧
    (a = 0x00000014#32 → s.hostEvent (.read a) = { s with response := some (.data s.nbits) }) ∧
    (a = 0x0000003C#32 → s.hostEvent (.read a) = { s with response := some (.data (BitVec.ofNat 32 s.params.nsMax)) }) ∧
    (a = 0x00000040#32 → s.hostEvent (.read a) = { s with response := some (.data (BitVec.ofNat 32 s.params.pbMax)) }) ∧
    (a = 0x00000018#32 ∨ (0x44 ≤ a.toNat ∧ a.toNat ≤ 0xFC) →
      s.hostEvent (.read a) = { s with response := some (.data 0#32) }) ∧
    (a = 0x00000010#32 ∨ (0x20 ≤ a.toNat ∧ a.toNat ≤ 0x38) ∨ 0x100 ≤ a.toNat →
      ∃ v d, s.hostEvent (.read a) = { s with response := some (.data v), drawCount := d })

/-- The model's choice (log entry 8) of how R235's "any value (a model draws it)" is had: while BUSY a read of LEN, of a
result register or of a RAM window answers the next free value and advances the draw counter, and no other read does. -/
def Obligations.BusyReadsAreFree : Prop :=
  ∀ (s : State) (a : Word), s.rst = false → s.phase = .busy → MappedWord s.params a.toNat →
    (a = 0x00000010#32 ∨ (0x20 ≤ a.toNat ∧ a.toNat ≤ 0x38) ∨ 0x100 ≤ a.toNat →
      s.hostEvent (.read a) =
        { s with response := some (.data (Config.anyRead s.drawCount)), drawCount := s.drawCount + 1 }) ∧
    (a.toNat ≤ 0x0C ∨ (0x14 ≤ a.toNat ∧ a.toNat ≤ 0x1C) ∨ (0x3C ≤ a.toNat ∧ a.toNat ≤ 0xFC) →
      (s.hostEvent (.read a)).drawCount = s.drawCount)

/-- R66, R67: the sample window, one sample a word. -/
def Obligations.SampleWindow : Prop :=
  ∀ (s : State) (i : Nat) (a v : Word), s.rst = false → s.params.wf → i < s.params.nsMax →
    a.toNat = 0x40000000 + 4 * i →
    (s.phase = .idle → s.hostEvent (.read a) = { s with response := some (.data ((s.sample i).setWidth 32)) }) ∧
    (s.phase = .idle → ∃ t : State, s.hostEvent (.write a v 0xF#4) = t ∧
      t = { s with sram := t.sram, response := some .ok } ∧
      t.sample i = v.extractLsb' 0 16 ∧ ∀ j, j ≠ i → t.sample j = s.sample j) ∧
    (s.phase = .busy → ∃ r, s.hostEvent (.write a v 0xF#4) = { s with hzd := true, response := r }) ∧
    (s.phase = .busy → ∃ r d, s.hostEvent (.read a) = { s with response := some (.data r), drawCount := d })

/-- R68, R69: the payload window, four bytes a word in little-endian lanes. -/
def Obligations.PayloadWindow : Prop :=
  ∀ (s : State) (m : Nat) (a v : Word), s.rst = false → s.params.wf → 4 * m < s.params.pbMax →
    a.toNat = 0x80000000 + 4 * m →
    (s.phase = .idle → ∃ x : Word, s.hostEvent (.read a) = { s with response := some (.data x) } ∧
      ∀ b, b < 4 → x.extractLsb' (8 * b) 8 = s.payloadByte (4 * m + b)) ∧
    (s.phase = .idle → ∃ t : State, s.hostEvent (.write a v 0xF#4) = t ∧
      t = { s with pram := t.pram, response := some .ok } ∧
      (∀ b, b < 4 → t.payloadByte (4 * m + b) = v.extractLsb' (8 * b) 8) ∧
      ∀ j, j < 4 * m ∨ 4 * m + 4 ≤ j → t.payloadByte j = s.payloadByte j) ∧
    (s.phase = .busy → ∃ r, s.hostEvent (.write a v 0xF#4) = { s with hzd := true, response := r }) ∧
    (s.phase = .busy → ∃ r d, s.hostEvent (.read a) = { s with response := some (.data r), drawCount := d })

/-! ### Reset and interrupt -/

/-- R53: what every register reads as after reset, and irq. (The RAMs and PCMD are free values, the parameters any the
spec admits.) -/
def Obligations.ResetValues : Prop :=
  State.reset.phase = .idle ∧
  State.reset.readReg .id = 0x4C534250#32 ∧
  State.reset.readReg .cfg = 0x00000101#32 ∧
  State.reset.readReg .status = 0x00000000#32 ∧
  (∀ r ∈ [Reg.nsamp, .capn, .len, .nbits, .maxbits, .tagw, .capbytes, .maxpay, .req, .mink, .tagval],
    State.reset.readReg r = 0#32) ∧
  State.reset.readReg .nsmax = BitVec.ofNat 32 State.reset.params.nsMax ∧
  State.reset.readReg .pbmax = BitVec.ofNat 32 State.reset.params.pbMax ∧
  State.reset.params.wf ∧
  State.reset.irq = false

/-- R230: asserting rst, and releasing it, puts every register at its reset value, abandons a command in progress, keeps
the parameters and draws the RAMs anew (no cell is listed). R231: an access while rst is asserted changes nothing and its
answer is any. The reset count, the draw count and the turns are the model's (log entries 2, 4, 8, 12). -/
def Obligations.ResetInput : Prop :=
  (∀ (s : State) (level : Bool), level = true ∨ s.rst = true →
    ∃ p : Word, s.hostEvent (.setRst level) =
      { State.reset with
        pcmd := p
        params := s.params
        rst := level
        resetCount := s.resetCount + 1
        drawCount := s.drawCount
        script := s.script }) ∧
  ∀ (s : State) (e : HostEvent), s.rst = true → e.isAccess = true →
    ∃ r : BusResponse, s.hostEvent e = { s with response := some r, drawCount := s.drawCount + 1 }

/-- R52, R216: irq is 0 after an issue and after DONE is cleared, is CFG.IE at the end of every command whatever its code,
and is not raised by a dropped write. -/
def Obligations.IrqLevel : Prop :=
  (∀ (s : State) (w : Word), s.rst = false → s.phase = .idle →
    (s.hostEvent (.write 0x00000018#32 w 0xF#4)).irq = false) ∧
  (∀ (s : State) (v : Word), s.rst = false → v.getLsbD 1 = true →
    (s.hostEvent (.write 0x0000001C#32 v 0xF#4)).irq = false) ∧
  (∀ (i : Instr) (s t : State), exec i s = .next t → t.irq = s.cfg.ie) ∧
  ∀ (s : State) (a v : Word), s.rst = false → s.phase = .busy → a ≠ 0x0000001C#32 →
    (s.hostEvent (.write a v 0xF#4)).irq = s.irq

/-! ### Every command -/

/-- R193, R191: every command, in every state, ends its one step IDLE with DONE = 1, and leaves every input, HZD and the
parameters as they were (R95). -/
def Obligations.EveryCommandEnds : Prop :=
  ∀ (i : Instr) (s : State), ∃ t, exec i s = .next t ∧ t.phase = .idle ∧ t.done = true ∧ s.SameInputs t

/-- R192: NOP completes in every state, with no check and no other effect. -/
def Obligations.NopCompletes : Prop :=
  encode .nop = 0x00000000#32 ∧
  ∀ s : State, exec .nop s = .next { s with phase := .idle, done := true, ecode := .noError }

/-- R203: DEPTH ∉ {1, 2} ends every command but NOP, before anything else is looked at. -/
def Obligations.BadDepthEnds : Prop :=
  errorNumber .unsupportedBitDepth = 2#4 ∧
  ∀ (i : Instr) (s : State), i ≠ .nop → s.cfg.depth.toNat ≠ 1 → s.cfg.depth.toNat ≠ 2 →
    exec i s = .next { s with phase := .idle, done := true, ecode := .unsupportedBitDepth }

/-- R206: with a legal DEPTH, K = 0 or K > W ends every command but NOP, before RANGE. -/
def Obligations.BadKEnds : Prop :=
  errorNumber .invalidK = 5#4 ∧
  ∀ (i : Instr) (s : State), i ≠ .nop → (s.cfg.depth.toNat = 1 ∨ s.cfg.depth.toNat = 2) →
    (s.cfg.k.toNat = 0 ∨ 8 * s.cfg.depth.toNat < s.cfg.k.toNat) →
    exec i s = .next { s with phase := .idle, done := true, ecode := .invalidK }

/-- R208: with legal DEPTH and K, NSAMP > NS_MAX ends the four commands that read samples. -/
def Obligations.RangeEnds : Prop :=
  errorNumber .range = 7#4 ∧
  ∀ (i : Instr) (s : State), i ∈ [Instr.ilv, .ilvt, .dilv, .dilvt] →
    (s.cfg.depth.toNat = 1 ∨ s.cfg.depth.toNat = 2) →
    1 ≤ s.cfg.k.toNat → s.cfg.k.toNat ≤ 8 * s.cfg.depth.toNat → s.params.nsMax < s.nsamp.toNat →
    exec i s = .next { s with phase := .idle, done := true, ecode := .range }

/-- R211: a command that fails changes no SRAM entry, no PRAM byte and not LEN. -/
def Obligations.FailureLeavesRams : Prop :=
  ∀ (i : Instr) (s t : State), exec i s = .next t → t.ecode ≠ .noError →
    s.SameSamples t ∧ s.SamePayload t ∧ t.len = s.len ∧ s.SameInputs t

/-- R95, R32: which commands can change each piece of state. -/
def Obligations.WritersOfEachState : Prop :=
  ∀ (i : Instr) (s t : State), exec i s = .next t →
    (t.len ≠ s.len → i = .dilvt) ∧
    (t.tagval ≠ s.tagval → i = .dilvt) ∧
    (¬s.SameSamples t → i = .ilv ∨ i = .ilvt) ∧
    (¬s.SamePayload t → i = .dilv ∨ i = .dilvt) ∧
    (¬s.SameReport t → i = .chkfit ∨ i = .chkfitt ∨ i = .ilv ∨ i = .ilvt) ∧
    (¬s.SameCapacity t → i ≠ .nop ∧ i ≠ .dilv)

/-- R71, R153: no command changes SRAM[i] for i ≥ NSAMP, nor PRAM[j] for j ≥ PB_MAX. -/
def Obligations.EngineStaysInside : Prop :=
  ∀ (i : Instr) (s t : State), s.params.wf → exec i s = .next t →
    (∀ a, s.nsamp.toNat ≤ a → t.sample a = s.sample a) ∧
    ∀ j, s.params.pbMax ≤ j → t.payloadByte j = s.payloadByte j

/-! ### The capacity validator -/

/-- R148: CAPQ records the capacity of CAPN, K and changes nothing else. -/
def Obligations.CapqResult : Prop :=
  ∀ s : State, LegalStart .capq s →
    ∃ t, exec .capq s = .next t ∧ t.Ended .noError ∧ s.CapacityRecorded t ∧
      s.SameInputs t ∧ s.SameReport t ∧ t.len = s.len ∧ t.tagval = s.tagval ∧ s.SameSamples t ∧ s.SamePayload t

/-- R149: CHKFIT when 8 × L ≤ C × k. -/
def Obligations.ChkfitFits : Prop :=
  ∀ s : State, LegalStart .chkfit s → 8 * s.len.toNat ≤ s.capn.toNat * s.cfg.k.toNat →
    ∃ t, exec .chkfit s = .next t ∧ t.Ended .noError ∧ s.CapacityRecorded t ∧
      t.req = s.len ∧ t.maxpay.toNat = s.capn.toNat * s.cfg.k.toNat / 8 ∧
      LeastOrZero (8 * s.cfg.depth.toNat) (fitsAt s.len.toNat false s.capn.toNat s.capn.toNat) t.mink.toNat ∧
      s.SameInputs t ∧ t.len = s.len ∧ t.tagval = s.tagval ∧ s.SameSamples t ∧ s.SamePayload t

/-- R150: CHKFITT when 8 × (L + tagw) ≤ C × k. -/
def Obligations.ChkfittFits : Prop :=
  ∀ s : State, LegalStart .chkfitt s → 8 * (s.len.toNat + s.tagWidth) ≤ s.capn.toNat * s.cfg.k.toNat →
    ∃ t, exec .chkfitt s = .next t ∧ t.Ended .noError ∧ s.CapacityRecorded t ∧
      t.req = s.len ∧ t.maxpay.toNat = s.capn.toNat * s.cfg.k.toNat / 8 - s.tagWidth ∧
      LeastOrZero (8 * s.cfg.depth.toNat) (fitsAt s.len.toNat true s.capn.toNat s.capn.toNat) t.mink.toNat ∧
      s.SameInputs t ∧ t.len = s.len ∧ t.tagval = s.tagval ∧ s.SameSamples t ∧ s.SamePayload t

/-- R149, R150, R202: CHKFIT and CHKFITT when the payload does not fit. MAXPAY is 0 when the tag alone does not fit. -/
def Obligations.CheckCapacityExceeded : Prop :=
  ∀ (i : Instr) (tagged : Bool) (tw : Nat) (s : State),
    (i = .chkfit ∧ tagged = false ∧ tw = 0 ∨ i = .chkfitt ∧ tagged = true ∧ tw = s.tagWidth) →
    LegalStart i s → s.capn.toNat * s.cfg.k.toNat < 8 * (s.len.toNat + tw) →
    ∃ t, exec i s = .next t ∧ t.Ended .capacityExceeded ∧ s.CapacityRecorded t ∧
      t.req = s.len ∧ t.maxpay.toNat = s.capn.toNat * s.cfg.k.toNat / 8 - tw ∧
      LeastOrZero (8 * s.cfg.depth.toNat) (fitsAt s.len.toNat tagged s.capn.toNat s.capn.toNat) t.mink.toNat ∧
      s.SameInputs t ∧ t.len = s.len ∧ t.tagval = s.tagval ∧ s.SameSamples t ∧ s.SamePayload t

/-- R116, R172, R202: ILV and ILVT when the payload (with its tag) exceeds either bound. -/
def Obligations.InterleaveCapacityExceeded : Prop :=
  ∀ (i : Instr) (tagged : Bool) (tw : Nat) (s : State),
    (i = .ilv ∧ tagged = false ∧ tw = 0 ∨ i = .ilvt ∧ tagged = true ∧ tw = s.tagWidth) →
    LegalStart i s →
    (s.capn.toNat * s.cfg.k.toNat < 8 * (s.len.toNat + tw) ∨
      s.nsamp.toNat * s.cfg.k.toNat < 8 * (s.len.toNat + tw)) →
    ∃ t, exec i s = .next t ∧ t.Ended .capacityExceeded ∧ s.CapacityRecorded t ∧
      t.req = s.len ∧ t.maxpay.toNat = min s.capn.toNat s.nsamp.toNat * s.cfg.k.toNat / 8 - tw ∧
      LeastOrZero (8 * s.cfg.depth.toNat)
        (fun k => fitsAt s.len.toNat tagged s.capn.toNat s.capn.toNat k ∧
          fitsAt s.len.toNat tagged s.capn.toNat s.nsamp.toNat k) t.mink.toNat ∧
      s.SameInputs t ∧ t.len = s.len ∧ t.tagval = s.tagval ∧ s.SameSamples t ∧ s.SamePayload t

/-- R146: MAXPAY is the largest payload the fit test admits; where the tag alone does not fit it is 0 and none is
admitted. -/
def Obligations.MaxpayIsLargest : Prop :=
  ∀ L tw n N k : Nat,
    (8 * tw ≤ n * k → (fitCap L tw n k ↔ L ≤ maxpayCap tw n k)) ∧
    (n * k < 8 * tw → ¬fitCap L tw n k ∧ maxpayCap tw n k = 0) ∧
    (8 * tw ≤ min n N * k → (fitCap L tw n k ∧ fitCarrier L tw N k ↔ L ≤ maxpayAll tw n N k)) ∧
    (min n N * k < 8 * tw → ¬(fitCap L tw n k ∧ fitCarrier L tw N k) ∧ maxpayAll tw n N k = 0)

/-- R147: MINK is the smallest k' in 1..W that passes, or 0; the raw form is max(1, ceil(8L / n)) when that is at
most W. -/
def Obligations.MinkIsLeast : Prop :=
  (∀ (L n N W : Nat) (tagged : Bool),
    LeastOrZero W (fun k => fitCap L (twAt tagged n k) n k) (minkCap L tagged n W) ∧
    LeastOrZero W (fun k => fitCap L (twAt tagged n k) n k ∧ fitCarrier L (twAt tagged n k) N k)
      (minkAll L tagged n N W)) ∧
  (∀ L n W : Nat, 1 ≤ n →
    minkCap L false n W = if max 1 ((8 * L + n - 1) / n) ≤ W then max 1 ((8 * L + n - 1) / n) else 0) ∧
  ∀ L W : Nat, 1 ≤ W → minkCap L false 0 W = if L = 0 then 1 else 0

/-- R142: the tag width is the bytes of bit_length(n × k), and its value by ranges of n × k. -/
def Obligations.TagWidthRanges : Prop :=
  ∀ n k : Nat,
    tagwOf n k = (bitLength (n * k) + 7) / 8 ∧
    (n * k = 0 → tagwOf n k = 0) ∧
    (1 ≤ n * k → n * k ≤ 255 → tagwOf n k = 1) ∧
    (256 ≤ n * k → n * k ≤ 65535 → tagwOf n k = 2) ∧
    (65536 ≤ n * k → n * k ≤ 2 ^ 24 - 1 → tagwOf n k = 3) ∧
    (2 ^ 24 ≤ n * k → n * k ≤ 2 ^ 32 - 1 → tagwOf n k = 4)

/-- R152: tagw, maxbits and capbytes are non-decreasing in both arguments. -/
def Obligations.CapacityMonotone : Prop :=
  ∀ n n' k k' : Nat, n ≤ n' → k ≤ k' →
    tagwOf n k ≤ tagwOf n' k' ∧ maxbitsOf n k ≤ maxbitsOf n' k' ∧ capbytesOf n k ≤ capbytesOf n' k'

/-- R154: a length that passes the capacity test fits its tag. -/
def Obligations.TagNeverOverflows : Prop :=
  ∀ L n k : Nat, fitCap L (tagwOf n k) n k → L < 2 ^ (8 * tagwOf n k)

/-! ### The codec -/

/-- R111: regrouping a byte list's bits gives the bytes back. -/
def Obligations.BytesOfBits : Prop := ∀ B : List Byte, bytesOf (bitsOf B) = B

/-- R119: an entry of the result depends only on its own old value and its own chunk of the stream, and a recovered bit
only on its own entry. -/
def Obligations.SamplesIndependent : Prop :=
  (∀ (S S' : List Sample) (b b' : List Bool) (k i : Nat), 1 ≤ k → i < S.length → i < S'.length →
    S.getD i 0#16 = S'.getD i 0#16 → (b.drop (i * k)).take k = (b'.drop (i * k)).take k →
    (pack S b k).getD i 0#16 = (pack S' b' k).getD i 0#16) ∧
  ∀ (S S' : List Sample) (n k q : Nat), q < n → S.getD (q / k) 0#16 = S'.getD (q / k) 0#16 →
    (unpack S n k).getD q false = (unpack S' n k).getD q false

/-- R116: ILV when both bounds hold. -/
def Obligations.IlvResult : Prop :=
  ∀ s : State, LegalStart .ilv s → 8 * s.len.toNat ≤ s.capn.toNat * s.cfg.k.toNat →
    8 * s.len.toNat ≤ s.nsamp.toNat * s.cfg.k.toNat →
    ∃ t, exec .ilv s = .next t ∧ t.Ended .noError ∧ s.CapacityRecorded t ∧
      t.req = s.len ∧ t.maxpay.toNat = min s.capn.toNat s.nsamp.toNat * s.cfg.k.toNat / 8 ∧
      LeastOrZero (8 * s.cfg.depth.toNat)
        (fun k => fitsAt s.len.toNat false s.capn.toNat s.capn.toNat k ∧
          fitsAt s.len.toNat false s.capn.toNat s.nsamp.toNat k) t.mink.toNat ∧
      s.Interleaved t (s.payload s.len.toNat) s.cfg.k.toNat s.nsamp.toNat ∧
      s.SameInputs t ∧ t.len = s.len ∧ t.tagval = s.tagval ∧ s.SamePayload t

/-- R117: DILV when NBITS is a multiple of 8 and the samples suffice. -/
def Obligations.DilvResult : Prop :=
  ∀ s : State, LegalStart .dilv s → s.nbits.toNat % 8 = 0 → s.nbits.toNat ≤ s.nsamp.toNat * s.cfg.k.toNat →
    ∃ t, exec .dilv s = .next t ∧ t.Ended .noError ∧
      s.Recovered t 0 (s.nbits.toNat / 8) s.cfg.k.toNat ∧
      s.SameInputs t ∧ s.SameCapacity t ∧ s.SameReport t ∧ t.len = s.len ∧ t.tagval = s.tagval ∧ s.SameSamples t

/-- R207, R117, R205: DILV's own checks, BAD_LENGTH first, each with nothing but STATUS changed. -/
def Obligations.DilvErrors : Prop :=
  ∀ s : State, LegalStart .dilv s →
    (s.nbits.toNat % 8 ≠ 0 →
      exec .dilv s = .next { s with phase := .idle, done := true, ecode := .badLength }) ∧
    (s.nbits.toNat % 8 = 0 → s.nsamp.toNat * s.cfg.k.toNat < s.nbits.toNat →
      exec .dilv s = .next { s with phase := .idle, done := true, ecode := .insufficientCarrier })

/-- R118, whole: unpack after pack gives the stream back; after an ILV that succeeds, a DILV with the same K, NSAMP and
SRAM[0..N) and NBITS = 8 × L recovers the payload. -/
def Obligations.IlvDilvRoundTrip : Prop :=
  (∀ (S : List Sample) (b : List Bool) (k : Nat), 1 ≤ k → k ≤ 16 → numChunks b.length k ≤ S.length →
    unpack (pack S b k) b.length k = b) ∧
  ∀ s t u : State, exec .ilv s = .next t → t.ecode = .noError →
    LegalStart .dilv u → u.cfg.k = s.cfg.k → u.nsamp = s.nsamp → u.nbits.toNat = 8 * s.len.toNat →
    (∀ i, i < s.nsamp.toNat → u.sample i = t.sample i) →
    ∃ v, exec .dilv u = .next v ∧ v.Ended .noError ∧ ∀ j, j < s.len.toNat → v.payloadByte j = s.payloadByte j

/-! ### The size tag -/

/-- R170, R171: a length that fits comes back from its tag, in either byte order. -/
def Obligations.TagRoundTrip : Prop :=
  ∀ (L tw : Nat) (le : Bool), L < 2 ^ (8 * tw) →
    tagValue (tagBytes L tw le) le = L ∧ (tagBytes L tw le).length = tw

/-- R172, R170: ILVT when both bounds hold: the tag bytes, then the payload, as one stream. -/
def Obligations.IlvtResult : Prop :=
  ∀ s : State, LegalStart .ilvt s → 8 * (s.len.toNat + s.tagWidth) ≤ s.capn.toNat * s.cfg.k.toNat →
    8 * (s.len.toNat + s.tagWidth) ≤ s.nsamp.toNat * s.cfg.k.toNat →
    ∃ t, exec .ilvt s = .next t ∧ t.Ended .noError ∧ s.CapacityRecorded t ∧
      t.req = s.len ∧ t.maxpay.toNat = min s.capn.toNat s.nsamp.toNat * s.cfg.k.toNat / 8 - s.tagWidth ∧
      LeastOrZero (8 * s.cfg.depth.toNat)
        (fun k => fitsAt s.len.toNat true s.capn.toNat s.capn.toNat k ∧
          fitsAt s.len.toNat true s.capn.toNat s.nsamp.toNat k) t.mink.toNat ∧
      (∃ T : List Byte, T.length = s.tagWidth ∧
        (∀ i, i < s.tagWidth → (T.getD i 0#8).toNat =
          (if s.cfg.tagle then s.len.toNat / 2 ^ (8 * i)
            else s.len.toNat / 2 ^ (8 * (s.tagWidth - 1 - i))) % 256) ∧
        s.Interleaved t (T ++ s.payload s.len.toNat) s.cfg.k.toNat s.nsamp.toNat) ∧
      s.SameInputs t ∧ t.len = s.len ∧ t.tagval = s.tagval ∧ s.SamePayload t

/-- R173: DILVT when the tag and the payload it declares are present and within capacity. -/
def Obligations.DilvtResult : Prop :=
  ∀ (s : State) (T : List Byte), LegalStart .dilvt s → s.TagIs T →
    8 * s.tagWidth ≤ s.nsamp.toNat * s.cfg.k.toNat →
    tagValue T s.cfg.tagle + s.tagWidth ≤ s.capn.toNat * s.cfg.k.toNat / 8 →
    8 * (s.tagWidth + tagValue T s.cfg.tagle) ≤ s.nsamp.toNat * s.cfg.k.toNat →
    ∃ t, exec .dilvt s = .next t ∧ t.Ended .noError ∧ s.CapacityRecorded t ∧
      t.tagval.toNat = tagValue T s.cfg.tagle ∧ t.len.toNat = tagValue T s.cfg.tagle ∧
      s.Recovered t (8 * s.tagWidth) (tagValue T s.cfg.tagle) s.cfg.k.toNat ∧
      s.SameInputs t ∧ s.SameReport t ∧ s.SameSamples t

/-- R173, R204, R205: DILVT's own checks in their order, with what each records. -/
def Obligations.DilvtErrors : Prop :=
  ∀ (s : State) (T : List Byte), LegalStart .dilvt s → s.TagIs T →
    ∃ t, exec .dilvt s = .next t ∧
      (s.nsamp.toNat * s.cfg.k.toNat < 8 * s.tagWidth →
        t.Ended .insufficientCarrier ∧ s.CapacityRecorded t ∧ t.tagval = s.tagval ∧
        s.SameInputs t ∧ s.SameReport t ∧ t.len = s.len ∧ s.SameSamples t ∧ s.SamePayload t) ∧
      (8 * s.tagWidth ≤ s.nsamp.toNat * s.cfg.k.toNat →
        s.capn.toNat * s.cfg.k.toNat / 8 < tagValue T s.cfg.tagle + s.tagWidth →
        t.Ended .corruptedSizeTag ∧ s.CapacityRecorded t ∧ t.tagval.toNat = tagValue T s.cfg.tagle ∧
        s.SameInputs t ∧ s.SameReport t ∧ t.len = s.len ∧ s.SameSamples t ∧ s.SamePayload t) ∧
      (8 * s.tagWidth ≤ s.nsamp.toNat * s.cfg.k.toNat →
        tagValue T s.cfg.tagle + s.tagWidth ≤ s.capn.toNat * s.cfg.k.toNat / 8 →
        s.nsamp.toNat * s.cfg.k.toNat < 8 * (s.tagWidth + tagValue T s.cfg.tagle) →
        t.Ended .insufficientCarrier ∧ s.CapacityRecorded t ∧ t.tagval.toNat = tagValue T s.cfg.tagle ∧
        s.SameInputs t ∧ s.SameReport t ∧ t.len = s.len ∧ s.SameSamples t ∧ s.SamePayload t)

/-- R174, R175: after an ILVT that succeeds, a DILVT with the same K, TAGLE, CAPN, NSAMP and SRAM[0..N) succeeds with
TAGVAL = L, LEN = L and the payload. -/
def Obligations.IlvtDilvtRoundTrip : Prop :=
  ∀ s t u : State, exec .ilvt s = .next t → t.ecode = .noError →
    LegalStart .dilvt u → u.cfg.k = s.cfg.k → u.cfg.tagle = s.cfg.tagle → u.capn = s.capn → u.nsamp = s.nsamp →
    (∀ i, i < s.nsamp.toNat → u.sample i = t.sample i) →
    ∃ v, exec .dilvt u = .next v ∧ v.Ended .noError ∧ v.tagval = s.len ∧ v.len = s.len ∧
      ∀ j, j < s.len.toNat → v.payloadByte j = s.payloadByte j

/-! ### The whole machine -/

/-- R53: the invariant holds right after reset. -/
def Obligations.ResetInv : Prop := State.reset.Inv

/-- Every step keeps the invariant: both RAMs canonical and within NS_MAX and PB_MAX (R71, R153), STATUS while BUSY (R190),
IDLE under reset (R230), the bounds and agreement of the result registers (R41 to R46). -/
def Obligations.StepKeepsInv : Prop := ∀ s t : State, s.Inv → step s = .next t → t.Inv

/-- R48: NS_MAX and PB_MAX never change. -/
def Obligations.ParamsNeverChange : Prop := ∀ s t : State, step s = .next t → t.params = s.params

/-- R234, R72, R217: whatever bus accesses come between a command's issue and the engine's step, the step has the same
result as if it had come at once; only HZD, the answer on the bus and the model's draw counter can differ. It is said of the
engine's step on the word latched, legal or illegal (R191), and of each command's rule. -/
def Obligations.AccessesWhileBusyDoNotMatter : Prop :=
  ∀ (s : State) (es : List HostEvent), s.phase = .busy → (∀ e ∈ es, e.isAccess = true) →
    (hostEvents es s).phase = .busy ∧ (hostEvents es s).pcmd = s.pcmd ∧
    (∃ t u, engineStep s = .next t ∧ engineStep (hostEvents es s) = .next u ∧
      u = { t with hzd := u.hzd, response := u.response, drawCount := u.drawCount }) ∧
    ∀ i : Instr, ∃ t u, exec i s = .next t ∧ exec i (hostEvents es s) = .next u ∧
      u = { t with hzd := u.hzd, response := u.response, drawCount := u.drawCount }

/-- R95, R148 to R150: what CAPQ, CHKFIT and CHKFITT compute depends on CFG.DEPTH, CFG.K, CAPN and (for the last two) LEN
alone. -/
def Obligations.CapacityCommandsReadNothingElse : Prop :=
  ∀ (i : Instr) (s s' t t' : State), i ∈ [Instr.capq, .chkfit, .chkfitt] →
    s.cfg.depth = s'.cfg.depth → s.cfg.k = s'.cfg.k → s.capn = s'.capn → (i = .capq ∨ s.len = s'.len) →
    exec i s = .next t → exec i s' = .next t' →
    t.ecode = t'.ecode ∧
    (t.ecode = .noError ∨ t.ecode = .capacityExceeded →
      t.maxbits = t'.maxbits ∧ t.tagw = t'.tagw ∧ t.capbytes = t'.capbytes ∧
      (i ≠ .capq → t.req = t'.req ∧ t.maxpay = t'.maxpay ∧ t.mink = t'.mink))
end

