-- ==== Sys2Proof/Laws/BitStream.lean ====
section
/-! SUPPORT. The bit-stream functions, one lemma for the length and one for the bits of each. -/

namespace Sys2Proof.Machine

@[simp] theorem bitsOf_length (B : List Byte) : (bitsOf B).length = 8 * B.length := by simp [bitsOf]

theorem bitsOf_getD (B : List Byte) (p : Nat) :
    (bitsOf B).getD p false = if p < 8 * B.length then (B.getD (p / 8) 0#8).getLsbD (7 - p % 8) else false := by
  by_cases h : p < 8 * B.length <;> simp [bitsOf, h]

@[simp] theorem bytesOf_length (c : List Bool) : (bytesOf c).length = c.length / 8 := by simp [bytesOf]

theorem bytesOf_getD (c : List Bool) {j : Nat} (h : j < c.length / 8) :
    (bytesOf c).getD j 0#8 = byteAt c (8 * j) := by simp [bytesOf, h]

theorem byteOfBits_getLsbD (x0 x1 x2 x3 x4 x5 x6 x7 : Bool) (b : Fin 8) :
    (BitVec.ofNat 8 ([x0.toNat * 2 ^ 7, x1.toNat * 2 ^ 6, x2.toNat * 2 ^ 5, x3.toNat * 2 ^ 4, x4.toNat * 2 ^ 3,
      x5.toNat * 2 ^ 2, x6.toNat * 2 ^ 1, x7.toNat * 2 ^ 0].sum)).getLsbD (7 - b.val) =
      [x0, x1, x2, x3, x4, x5, x6, x7].getD b.val false := by
  revert x0 x1 x2 x3 x4 x5 x6 x7 b; decide

/-- Eight bits, most significant first, are the bits of the byte they make. -/
theorem byteAt_getLsbD (c : List Bool) (p : Nat) {b : Nat} (h : b < 8) :
    (byteAt c p).getLsbD (7 - b) = c.getD (p + b) false := by
  have e := byteOfBits_getLsbD (c.getD (p + 0) false) (c.getD (p + 1) false) (c.getD (p + 2) false)
    (c.getD (p + 3) false) (c.getD (p + 4) false) (c.getD (p + 5) false) (c.getD (p + 6) false)
    (c.getD (p + 7) false) ⟨b, h⟩
  refine Eq.trans e ?_
  interval_cases b <;> rfl

/-- The bits of a chunk: stream bit s × k + t at bit k − 1 − t, nothing from bit k up. -/
theorem chunk_getLsbD (b : List Bool) (k s i : Nat) :
    (chunk b k s).getLsbD i = (decide (i < 16) && decide (i < k) && b.getD (s * k + (k - 1 - i)) false) := by
  unfold chunk
  generalize hf : (fun t => b.getD (s * k + t) false) = f
  have e : ∀ t, b.getD (s * k + t) false = f t := fun t => by rw [← hf]
  simp only [e]
  clear e hf
  induction k generalizing i with
  | zero => simp
  | succ k ih =>
    rw [List.range_succ, List.foldl_append, List.foldl_cons, List.foldl_nil, BitVec.getLsbD_or,
      BitVec.getLsbD_shiftLeft, ih]
    cases i with
    | zero => simp
    | succ i =>
      have e3 : k - 1 - i = k - (i + 1) := by omega
      by_cases h16 : i + 1 < 16
      · have h15 : i < 16 := by omega
        simp [e3, h16, h15]
      · simp [h16]

theorem lowMask_getLsbD (k i : Nat) : (lowMask k).getLsbD i = (decide (i < 16) && decide (i < k)) := by
  simp [lowMask, BitVec.getLsbD_ofNat, Nat.testBit_two_pow_sub_one]

/-- An entry with its low k bits replaced by a k-bit chunk. -/
theorem replaceLow_getLsbD (x : Sample) (b : List Bool) (k s i : Nat) :
    (replaceLow x k (chunk b k s)).getLsbD i =
      if i < k then decide (i < 16) && b.getD (s * k + (k - 1 - i)) false else x.getLsbD i := by
  unfold replaceLow
  rw [BitVec.getLsbD_or, BitVec.getLsbD_and, BitVec.getLsbD_not, lowMask_getLsbD, chunk_getLsbD]
  by_cases h16 : i < 16
  · by_cases hk : i < k <;> simp [h16, hk]
  · have hx : x.getLsbD i = false := BitVec.getLsbD_of_ge x i (by omega)
    by_cases hk : i < k <;> simp [h16, hx]

@[simp] theorem pack_length (S : List Sample) (b : List Bool) (k : Nat) : (pack S b k).length = S.length := by
  simp [pack]

theorem pack_getD (S : List Sample) (b : List Bool) (k : Nat) {i : Nat} (h : i < S.length) :
    (pack S b k).getD i 0#16 =
      if i < numChunks b.length k then replaceLow (S.getD i 0#16) k (chunk b k i) else S.getD i 0#16 := by
  simp [pack, List.getD, h]

/-- Sample i receives a chunk exactly when the stream reaches it. -/
theorem lt_numChunks {nb k i : Nat} (hk : 1 ≤ k) : i < numChunks nb k ↔ i * k < nb := by
  unfold numChunks
  rw [Nat.lt_iff_add_one_le, Nat.le_div_iff_mul_le (by omega), Nat.add_mul]
  omega

@[simp] theorem unpack_length (S : List Sample) (n k : Nat) : (unpack S n k).length = n := by simp [unpack]

theorem unpack_getD (S : List Sample) (n k : Nat) {q : Nat} (h : q < n) :
    (unpack S n k).getD q false = (S.getD (q / k) 0#16).getLsbD (k - 1 - q % k) := by
  simp [unpack, h]

@[simp] theorem tagBytes_length (L tw : Nat) (le : Bool) : (tagBytes L tw le).length = tw := by simp [tagBytes]

end Sys2Proof.Machine
end

