-- ==== Sys2Proof/Laws/State.lean ====
section
/-! SUPPORT. One lemma per field per update of State, so that no later proof unfolds a record update; then the same for
the readings of State that an update leaves alone. -/

namespace Sys2Proof.Machine

section
variable (s : State)

/-! ### finish -/

@[simp] theorem State.finish_phase (code : ErrorCode) : (s.finish code).phase = .idle := rfl
@[simp] theorem State.finish_pcmd (code : ErrorCode) : (s.finish code).pcmd = s.pcmd := rfl
@[simp] theorem State.finish_cfg (code : ErrorCode) : (s.finish code).cfg = s.cfg := rfl
@[simp] theorem State.finish_nsamp (code : ErrorCode) : (s.finish code).nsamp = s.nsamp := rfl
@[simp] theorem State.finish_capn (code : ErrorCode) : (s.finish code).capn = s.capn := rfl
@[simp] theorem State.finish_len (code : ErrorCode) : (s.finish code).len = s.len := rfl
@[simp] theorem State.finish_nbits (code : ErrorCode) : (s.finish code).nbits = s.nbits := rfl
@[simp] theorem State.finish_done (code : ErrorCode) : (s.finish code).done = true := rfl
@[simp] theorem State.finish_hzd (code : ErrorCode) : (s.finish code).hzd = s.hzd := rfl
@[simp] theorem State.finish_ecode (code : ErrorCode) : (s.finish code).ecode = code := rfl
@[simp] theorem State.finish_maxbits (code : ErrorCode) : (s.finish code).maxbits = s.maxbits := rfl
@[simp] theorem State.finish_tagw (code : ErrorCode) : (s.finish code).tagw = s.tagw := rfl
@[simp] theorem State.finish_capbytes (code : ErrorCode) : (s.finish code).capbytes = s.capbytes := rfl
@[simp] theorem State.finish_maxpay (code : ErrorCode) : (s.finish code).maxpay = s.maxpay := rfl
@[simp] theorem State.finish_req (code : ErrorCode) : (s.finish code).req = s.req := rfl
@[simp] theorem State.finish_mink (code : ErrorCode) : (s.finish code).mink = s.mink := rfl
@[simp] theorem State.finish_tagval (code : ErrorCode) : (s.finish code).tagval = s.tagval := rfl
@[simp] theorem State.finish_params (code : ErrorCode) : (s.finish code).params = s.params := rfl
@[simp] theorem State.finish_sram (code : ErrorCode) : (s.finish code).sram = s.sram := rfl
@[simp] theorem State.finish_pram (code : ErrorCode) : (s.finish code).pram = s.pram := rfl
@[simp] theorem State.finish_rst (code : ErrorCode) : (s.finish code).rst = s.rst := rfl
@[simp] theorem State.finish_resetCount (code : ErrorCode) : (s.finish code).resetCount = s.resetCount := rfl
@[simp] theorem State.finish_drawCount (code : ErrorCode) : (s.finish code).drawCount = s.drawCount := rfl
@[simp] theorem State.finish_script (code : ErrorCode) : (s.finish code).script = s.script := rfl
@[simp] theorem State.finish_response (code : ErrorCode) : (s.finish code).response = s.response := rfl
@[simp] theorem State.finish_sample (code : ErrorCode) (a : Nat) : (s.finish code).sample a = s.sample a := rfl
@[simp] theorem State.finish_payloadByte (code : ErrorCode) (a : Nat) : (s.finish code).payloadByte a = s.payloadByte a := rfl
@[simp] theorem State.finish_samples (code : ErrorCode) (a : Nat) : (s.finish code).samples a = s.samples a := rfl
@[simp] theorem State.finish_payload (code : ErrorCode) (a : Nat) : (s.finish code).payload a = s.payload a := rfl
@[simp] theorem State.finish_numLsb (code : ErrorCode) : (s.finish code).numLsb = s.numLsb := rfl
@[simp] theorem State.finish_width (code : ErrorCode) : (s.finish code).width = s.width := rfl
@[simp] theorem State.finish_numSamples (code : ErrorCode) : (s.finish code).numSamples = s.numSamples := rfl

/-! ### issue -/

@[simp] theorem State.issue_phase (w : Word) : (s.issue w).phase = .busy := rfl
@[simp] theorem State.issue_pcmd (w : Word) : (s.issue w).pcmd = w := rfl
@[simp] theorem State.issue_cfg (w : Word) : (s.issue w).cfg = s.cfg := rfl
@[simp] theorem State.issue_nsamp (w : Word) : (s.issue w).nsamp = s.nsamp := rfl
@[simp] theorem State.issue_capn (w : Word) : (s.issue w).capn = s.capn := rfl
@[simp] theorem State.issue_len (w : Word) : (s.issue w).len = s.len := rfl
@[simp] theorem State.issue_nbits (w : Word) : (s.issue w).nbits = s.nbits := rfl
@[simp] theorem State.issue_done (w : Word) : (s.issue w).done = false := rfl
@[simp] theorem State.issue_hzd (w : Word) : (s.issue w).hzd = s.hzd := rfl
@[simp] theorem State.issue_ecode (w : Word) : (s.issue w).ecode = .noError := rfl
@[simp] theorem State.issue_maxbits (w : Word) : (s.issue w).maxbits = s.maxbits := rfl
@[simp] theorem State.issue_tagw (w : Word) : (s.issue w).tagw = s.tagw := rfl
@[simp] theorem State.issue_capbytes (w : Word) : (s.issue w).capbytes = s.capbytes := rfl
@[simp] theorem State.issue_maxpay (w : Word) : (s.issue w).maxpay = s.maxpay := rfl
@[simp] theorem State.issue_req (w : Word) : (s.issue w).req = s.req := rfl
@[simp] theorem State.issue_mink (w : Word) : (s.issue w).mink = s.mink := rfl
@[simp] theorem State.issue_tagval (w : Word) : (s.issue w).tagval = s.tagval := rfl
@[simp] theorem State.issue_params (w : Word) : (s.issue w).params = s.params := rfl
@[simp] theorem State.issue_sram (w : Word) : (s.issue w).sram = s.sram := rfl
@[simp] theorem State.issue_pram (w : Word) : (s.issue w).pram = s.pram := rfl
@[simp] theorem State.issue_rst (w : Word) : (s.issue w).rst = s.rst := rfl
@[simp] theorem State.issue_resetCount (w : Word) : (s.issue w).resetCount = s.resetCount := rfl
@[simp] theorem State.issue_drawCount (w : Word) : (s.issue w).drawCount = s.drawCount := rfl
@[simp] theorem State.issue_script (w : Word) : (s.issue w).script = s.script := rfl
@[simp] theorem State.issue_response (w : Word) : (s.issue w).response = s.response := rfl
@[simp] theorem State.issue_sample (w : Word) (a : Nat) : (s.issue w).sample a = s.sample a := rfl
@[simp] theorem State.issue_payloadByte (w : Word) (a : Nat) : (s.issue w).payloadByte a = s.payloadByte a := rfl
@[simp] theorem State.issue_samples (w : Word) (a : Nat) : (s.issue w).samples a = s.samples a := rfl
@[simp] theorem State.issue_payload (w : Word) (a : Nat) : (s.issue w).payload a = s.payload a := rfl
@[simp] theorem State.issue_numLsb (w : Word) : (s.issue w).numLsb = s.numLsb := rfl
@[simp] theorem State.issue_width (w : Word) : (s.issue w).width = s.width := rfl
@[simp] theorem State.issue_numSamples (w : Word) : (s.issue w).numSamples = s.numSamples := rfl

/-! ### capOut -/

@[simp] theorem State.capOut_phase (n k : Nat) : (s.capOut n k).phase = s.phase := rfl
@[simp] theorem State.capOut_pcmd (n k : Nat) : (s.capOut n k).pcmd = s.pcmd := rfl
@[simp] theorem State.capOut_cfg (n k : Nat) : (s.capOut n k).cfg = s.cfg := rfl
@[simp] theorem State.capOut_nsamp (n k : Nat) : (s.capOut n k).nsamp = s.nsamp := rfl
@[simp] theorem State.capOut_capn (n k : Nat) : (s.capOut n k).capn = s.capn := rfl
@[simp] theorem State.capOut_len (n k : Nat) : (s.capOut n k).len = s.len := rfl
@[simp] theorem State.capOut_nbits (n k : Nat) : (s.capOut n k).nbits = s.nbits := rfl
@[simp] theorem State.capOut_done (n k : Nat) : (s.capOut n k).done = s.done := rfl
@[simp] theorem State.capOut_hzd (n k : Nat) : (s.capOut n k).hzd = s.hzd := rfl
@[simp] theorem State.capOut_ecode (n k : Nat) : (s.capOut n k).ecode = s.ecode := rfl
@[simp] theorem State.capOut_maxbits (n k : Nat) : (s.capOut n k).maxbits = BitVec.ofNat 32 (maxbitsOf n k) := rfl
@[simp] theorem State.capOut_tagw (n k : Nat) : (s.capOut n k).tagw = BitVec.ofNat 3 (tagwOf n k) := rfl
@[simp] theorem State.capOut_capbytes (n k : Nat) : (s.capOut n k).capbytes = BitVec.ofNat 32 (capbytesOf n k) := rfl
@[simp] theorem State.capOut_maxpay (n k : Nat) : (s.capOut n k).maxpay = s.maxpay := rfl
@[simp] theorem State.capOut_req (n k : Nat) : (s.capOut n k).req = s.req := rfl
@[simp] theorem State.capOut_mink (n k : Nat) : (s.capOut n k).mink = s.mink := rfl
@[simp] theorem State.capOut_tagval (n k : Nat) : (s.capOut n k).tagval = s.tagval := rfl
@[simp] theorem State.capOut_params (n k : Nat) : (s.capOut n k).params = s.params := rfl
@[simp] theorem State.capOut_sram (n k : Nat) : (s.capOut n k).sram = s.sram := rfl
@[simp] theorem State.capOut_pram (n k : Nat) : (s.capOut n k).pram = s.pram := rfl
@[simp] theorem State.capOut_rst (n k : Nat) : (s.capOut n k).rst = s.rst := rfl
@[simp] theorem State.capOut_resetCount (n k : Nat) : (s.capOut n k).resetCount = s.resetCount := rfl
@[simp] theorem State.capOut_drawCount (n k : Nat) : (s.capOut n k).drawCount = s.drawCount := rfl
@[simp] theorem State.capOut_script (n k : Nat) : (s.capOut n k).script = s.script := rfl
@[simp] theorem State.capOut_response (n k : Nat) : (s.capOut n k).response = s.response := rfl
@[simp] theorem State.capOut_sample (n k : Nat) (a : Nat) : (s.capOut n k).sample a = s.sample a := rfl
@[simp] theorem State.capOut_payloadByte (n k : Nat) (a : Nat) : (s.capOut n k).payloadByte a = s.payloadByte a := rfl
@[simp] theorem State.capOut_samples (n k : Nat) (a : Nat) : (s.capOut n k).samples a = s.samples a := rfl
@[simp] theorem State.capOut_payload (n k : Nat) (a : Nat) : (s.capOut n k).payload a = s.payload a := rfl
@[simp] theorem State.capOut_numLsb (n k : Nat) : (s.capOut n k).numLsb = s.numLsb := rfl
@[simp] theorem State.capOut_width (n k : Nat) : (s.capOut n k).width = s.width := rfl
@[simp] theorem State.capOut_numSamples (n k : Nat) : (s.capOut n k).numSamples = s.numSamples := rfl
@[simp] theorem State.capOut_busy (n k : Nat) : (s.capOut n k).busy = s.busy := rfl
@[simp] theorem State.capOut_statusWord (n k : Nat) : (s.capOut n k).statusWord = s.statusWord := rfl

/-! ### recordFit -/

@[simp] theorem State.recordFit_phase (pay least : Nat) : (s.recordFit pay least).phase = s.phase := rfl
@[simp] theorem State.recordFit_pcmd (pay least : Nat) : (s.recordFit pay least).pcmd = s.pcmd := rfl
@[simp] theorem State.recordFit_cfg (pay least : Nat) : (s.recordFit pay least).cfg = s.cfg := rfl
@[simp] theorem State.recordFit_nsamp (pay least : Nat) : (s.recordFit pay least).nsamp = s.nsamp := rfl
@[simp] theorem State.recordFit_capn (pay least : Nat) : (s.recordFit pay least).capn = s.capn := rfl
@[simp] theorem State.recordFit_len (pay least : Nat) : (s.recordFit pay least).len = s.len := rfl
@[simp] theorem State.recordFit_nbits (pay least : Nat) : (s.recordFit pay least).nbits = s.nbits := rfl
@[simp] theorem State.recordFit_done (pay least : Nat) : (s.recordFit pay least).done = s.done := rfl
@[simp] theorem State.recordFit_hzd (pay least : Nat) : (s.recordFit pay least).hzd = s.hzd := rfl
@[simp] theorem State.recordFit_ecode (pay least : Nat) : (s.recordFit pay least).ecode = s.ecode := rfl
@[simp] theorem State.recordFit_maxbits (pay least : Nat) : (s.recordFit pay least).maxbits = s.maxbits := rfl
@[simp] theorem State.recordFit_tagw (pay least : Nat) : (s.recordFit pay least).tagw = s.tagw := rfl
@[simp] theorem State.recordFit_capbytes (pay least : Nat) : (s.recordFit pay least).capbytes = s.capbytes := rfl
@[simp] theorem State.recordFit_maxpay (pay least : Nat) : (s.recordFit pay least).maxpay = BitVec.ofNat 32 pay := rfl
@[simp] theorem State.recordFit_req (pay least : Nat) : (s.recordFit pay least).req = s.len := rfl
@[simp] theorem State.recordFit_mink (pay least : Nat) : (s.recordFit pay least).mink = BitVec.ofNat 5 least := rfl
@[simp] theorem State.recordFit_tagval (pay least : Nat) : (s.recordFit pay least).tagval = s.tagval := rfl
@[simp] theorem State.recordFit_params (pay least : Nat) : (s.recordFit pay least).params = s.params := rfl
@[simp] theorem State.recordFit_sram (pay least : Nat) : (s.recordFit pay least).sram = s.sram := rfl
@[simp] theorem State.recordFit_pram (pay least : Nat) : (s.recordFit pay least).pram = s.pram := rfl
@[simp] theorem State.recordFit_rst (pay least : Nat) : (s.recordFit pay least).rst = s.rst := rfl
@[simp] theorem State.recordFit_resetCount (pay least : Nat) : (s.recordFit pay least).resetCount = s.resetCount := rfl
@[simp] theorem State.recordFit_drawCount (pay least : Nat) : (s.recordFit pay least).drawCount = s.drawCount := rfl
@[simp] theorem State.recordFit_script (pay least : Nat) : (s.recordFit pay least).script = s.script := rfl
@[simp] theorem State.recordFit_response (pay least : Nat) : (s.recordFit pay least).response = s.response := rfl
@[simp] theorem State.recordFit_sample (pay least : Nat) (a : Nat) : (s.recordFit pay least).sample a = s.sample a := rfl
@[simp] theorem State.recordFit_payloadByte (pay least : Nat) (a : Nat) : (s.recordFit pay least).payloadByte a = s.payloadByte a := rfl
@[simp] theorem State.recordFit_samples (pay least : Nat) (a : Nat) : (s.recordFit pay least).samples a = s.samples a := rfl
@[simp] theorem State.recordFit_payload (pay least : Nat) (a : Nat) : (s.recordFit pay least).payload a = s.payload a := rfl
@[simp] theorem State.recordFit_numLsb (pay least : Nat) : (s.recordFit pay least).numLsb = s.numLsb := rfl
@[simp] theorem State.recordFit_width (pay least : Nat) : (s.recordFit pay least).width = s.width := rfl
@[simp] theorem State.recordFit_numSamples (pay least : Nat) : (s.recordFit pay least).numSamples = s.numSamples := rfl
@[simp] theorem State.recordFit_busy (pay least : Nat) : (s.recordFit pay least).busy = s.busy := rfl
@[simp] theorem State.recordFit_statusWord (pay least : Nat) : (s.recordFit pay least).statusWord = s.statusWord := rfl

/-! ### recordTag -/

@[simp] theorem State.recordTag_phase (v : Nat) : (s.recordTag v).phase = s.phase := rfl
@[simp] theorem State.recordTag_pcmd (v : Nat) : (s.recordTag v).pcmd = s.pcmd := rfl
@[simp] theorem State.recordTag_cfg (v : Nat) : (s.recordTag v).cfg = s.cfg := rfl
@[simp] theorem State.recordTag_nsamp (v : Nat) : (s.recordTag v).nsamp = s.nsamp := rfl
@[simp] theorem State.recordTag_capn (v : Nat) : (s.recordTag v).capn = s.capn := rfl
@[simp] theorem State.recordTag_len (v : Nat) : (s.recordTag v).len = s.len := rfl
@[simp] theorem State.recordTag_nbits (v : Nat) : (s.recordTag v).nbits = s.nbits := rfl
@[simp] theorem State.recordTag_done (v : Nat) : (s.recordTag v).done = s.done := rfl
@[simp] theorem State.recordTag_hzd (v : Nat) : (s.recordTag v).hzd = s.hzd := rfl
@[simp] theorem State.recordTag_ecode (v : Nat) : (s.recordTag v).ecode = s.ecode := rfl
@[simp] theorem State.recordTag_maxbits (v : Nat) : (s.recordTag v).maxbits = s.maxbits := rfl
@[simp] theorem State.recordTag_tagw (v : Nat) : (s.recordTag v).tagw = s.tagw := rfl
@[simp] theorem State.recordTag_capbytes (v : Nat) : (s.recordTag v).capbytes = s.capbytes := rfl
@[simp] theorem State.recordTag_maxpay (v : Nat) : (s.recordTag v).maxpay = s.maxpay := rfl
@[simp] theorem State.recordTag_req (v : Nat) : (s.recordTag v).req = s.req := rfl
@[simp] theorem State.recordTag_mink (v : Nat) : (s.recordTag v).mink = s.mink := rfl
@[simp] theorem State.recordTag_tagval (v : Nat) : (s.recordTag v).tagval = BitVec.ofNat 32 v := rfl
@[simp] theorem State.recordTag_params (v : Nat) : (s.recordTag v).params = s.params := rfl
@[simp] theorem State.recordTag_sram (v : Nat) : (s.recordTag v).sram = s.sram := rfl
@[simp] theorem State.recordTag_pram (v : Nat) : (s.recordTag v).pram = s.pram := rfl
@[simp] theorem State.recordTag_rst (v : Nat) : (s.recordTag v).rst = s.rst := rfl
@[simp] theorem State.recordTag_resetCount (v : Nat) : (s.recordTag v).resetCount = s.resetCount := rfl
@[simp] theorem State.recordTag_drawCount (v : Nat) : (s.recordTag v).drawCount = s.drawCount := rfl
@[simp] theorem State.recordTag_script (v : Nat) : (s.recordTag v).script = s.script := rfl
@[simp] theorem State.recordTag_response (v : Nat) : (s.recordTag v).response = s.response := rfl
@[simp] theorem State.recordTag_sample (v : Nat) (a : Nat) : (s.recordTag v).sample a = s.sample a := rfl
@[simp] theorem State.recordTag_payloadByte (v : Nat) (a : Nat) : (s.recordTag v).payloadByte a = s.payloadByte a := rfl
@[simp] theorem State.recordTag_samples (v : Nat) (a : Nat) : (s.recordTag v).samples a = s.samples a := rfl
@[simp] theorem State.recordTag_payload (v : Nat) (a : Nat) : (s.recordTag v).payload a = s.payload a := rfl
@[simp] theorem State.recordTag_numLsb (v : Nat) : (s.recordTag v).numLsb = s.numLsb := rfl
@[simp] theorem State.recordTag_width (v : Nat) : (s.recordTag v).width = s.width := rfl
@[simp] theorem State.recordTag_numSamples (v : Nat) : (s.recordTag v).numSamples = s.numSamples := rfl
@[simp] theorem State.recordTag_busy (v : Nat) : (s.recordTag v).busy = s.busy := rfl
@[simp] theorem State.recordTag_statusWord (v : Nat) : (s.recordTag v).statusWord = s.statusWord := rfl

/-! ### setLen -/

@[simp] theorem State.setLen_phase (v : Nat) : (s.setLen v).phase = s.phase := rfl
@[simp] theorem State.setLen_pcmd (v : Nat) : (s.setLen v).pcmd = s.pcmd := rfl
@[simp] theorem State.setLen_cfg (v : Nat) : (s.setLen v).cfg = s.cfg := rfl
@[simp] theorem State.setLen_nsamp (v : Nat) : (s.setLen v).nsamp = s.nsamp := rfl
@[simp] theorem State.setLen_capn (v : Nat) : (s.setLen v).capn = s.capn := rfl
@[simp] theorem State.setLen_len (v : Nat) : (s.setLen v).len = BitVec.ofNat 32 v := rfl
@[simp] theorem State.setLen_nbits (v : Nat) : (s.setLen v).nbits = s.nbits := rfl
@[simp] theorem State.setLen_done (v : Nat) : (s.setLen v).done = s.done := rfl
@[simp] theorem State.setLen_hzd (v : Nat) : (s.setLen v).hzd = s.hzd := rfl
@[simp] theorem State.setLen_ecode (v : Nat) : (s.setLen v).ecode = s.ecode := rfl
@[simp] theorem State.setLen_maxbits (v : Nat) : (s.setLen v).maxbits = s.maxbits := rfl
@[simp] theorem State.setLen_tagw (v : Nat) : (s.setLen v).tagw = s.tagw := rfl
@[simp] theorem State.setLen_capbytes (v : Nat) : (s.setLen v).capbytes = s.capbytes := rfl
@[simp] theorem State.setLen_maxpay (v : Nat) : (s.setLen v).maxpay = s.maxpay := rfl
@[simp] theorem State.setLen_req (v : Nat) : (s.setLen v).req = s.req := rfl
@[simp] theorem State.setLen_mink (v : Nat) : (s.setLen v).mink = s.mink := rfl
@[simp] theorem State.setLen_tagval (v : Nat) : (s.setLen v).tagval = s.tagval := rfl
@[simp] theorem State.setLen_params (v : Nat) : (s.setLen v).params = s.params := rfl
@[simp] theorem State.setLen_sram (v : Nat) : (s.setLen v).sram = s.sram := rfl
@[simp] theorem State.setLen_pram (v : Nat) : (s.setLen v).pram = s.pram := rfl
@[simp] theorem State.setLen_rst (v : Nat) : (s.setLen v).rst = s.rst := rfl
@[simp] theorem State.setLen_resetCount (v : Nat) : (s.setLen v).resetCount = s.resetCount := rfl
@[simp] theorem State.setLen_drawCount (v : Nat) : (s.setLen v).drawCount = s.drawCount := rfl
@[simp] theorem State.setLen_script (v : Nat) : (s.setLen v).script = s.script := rfl
@[simp] theorem State.setLen_response (v : Nat) : (s.setLen v).response = s.response := rfl
@[simp] theorem State.setLen_sample (v : Nat) (a : Nat) : (s.setLen v).sample a = s.sample a := rfl
@[simp] theorem State.setLen_payloadByte (v : Nat) (a : Nat) : (s.setLen v).payloadByte a = s.payloadByte a := rfl
@[simp] theorem State.setLen_samples (v : Nat) (a : Nat) : (s.setLen v).samples a = s.samples a := rfl
@[simp] theorem State.setLen_payload (v : Nat) (a : Nat) : (s.setLen v).payload a = s.payload a := rfl
@[simp] theorem State.setLen_numLsb (v : Nat) : (s.setLen v).numLsb = s.numLsb := rfl
@[simp] theorem State.setLen_width (v : Nat) : (s.setLen v).width = s.width := rfl
@[simp] theorem State.setLen_numSamples (v : Nat) : (s.setLen v).numSamples = s.numSamples := rfl
@[simp] theorem State.setLen_busy (v : Nat) : (s.setLen v).busy = s.busy := rfl
@[simp] theorem State.setLen_statusWord (v : Nat) : (s.setLen v).statusWord = s.statusWord := rfl

/-! ### storeSamples -/

@[simp] theorem State.storeSamples_phase (vs : List Sample) : (s.storeSamples vs).phase = s.phase := rfl
@[simp] theorem State.storeSamples_pcmd (vs : List Sample) : (s.storeSamples vs).pcmd = s.pcmd := rfl
@[simp] theorem State.storeSamples_cfg (vs : List Sample) : (s.storeSamples vs).cfg = s.cfg := rfl
@[simp] theorem State.storeSamples_nsamp (vs : List Sample) : (s.storeSamples vs).nsamp = s.nsamp := rfl
@[simp] theorem State.storeSamples_capn (vs : List Sample) : (s.storeSamples vs).capn = s.capn := rfl
@[simp] theorem State.storeSamples_len (vs : List Sample) : (s.storeSamples vs).len = s.len := rfl
@[simp] theorem State.storeSamples_nbits (vs : List Sample) : (s.storeSamples vs).nbits = s.nbits := rfl
@[simp] theorem State.storeSamples_done (vs : List Sample) : (s.storeSamples vs).done = s.done := rfl
@[simp] theorem State.storeSamples_hzd (vs : List Sample) : (s.storeSamples vs).hzd = s.hzd := rfl
@[simp] theorem State.storeSamples_ecode (vs : List Sample) : (s.storeSamples vs).ecode = s.ecode := rfl
@[simp] theorem State.storeSamples_maxbits (vs : List Sample) : (s.storeSamples vs).maxbits = s.maxbits := rfl
@[simp] theorem State.storeSamples_tagw (vs : List Sample) : (s.storeSamples vs).tagw = s.tagw := rfl
@[simp] theorem State.storeSamples_capbytes (vs : List Sample) : (s.storeSamples vs).capbytes = s.capbytes := rfl
@[simp] theorem State.storeSamples_maxpay (vs : List Sample) : (s.storeSamples vs).maxpay = s.maxpay := rfl
@[simp] theorem State.storeSamples_req (vs : List Sample) : (s.storeSamples vs).req = s.req := rfl
@[simp] theorem State.storeSamples_mink (vs : List Sample) : (s.storeSamples vs).mink = s.mink := rfl
@[simp] theorem State.storeSamples_tagval (vs : List Sample) : (s.storeSamples vs).tagval = s.tagval := rfl
@[simp] theorem State.storeSamples_params (vs : List Sample) : (s.storeSamples vs).params = s.params := rfl
@[simp] theorem State.storeSamples_sram (vs : List Sample) : (s.storeSamples vs).sram = memWriteList s.sram 0 vs := rfl
@[simp] theorem State.storeSamples_pram (vs : List Sample) : (s.storeSamples vs).pram = s.pram := rfl
@[simp] theorem State.storeSamples_rst (vs : List Sample) : (s.storeSamples vs).rst = s.rst := rfl
@[simp] theorem State.storeSamples_resetCount (vs : List Sample) : (s.storeSamples vs).resetCount = s.resetCount := rfl
@[simp] theorem State.storeSamples_drawCount (vs : List Sample) : (s.storeSamples vs).drawCount = s.drawCount := rfl
@[simp] theorem State.storeSamples_script (vs : List Sample) : (s.storeSamples vs).script = s.script := rfl
@[simp] theorem State.storeSamples_response (vs : List Sample) : (s.storeSamples vs).response = s.response := rfl
@[simp] theorem State.storeSamples_payloadByte (vs : List Sample) (a : Nat) : (s.storeSamples vs).payloadByte a = s.payloadByte a := rfl
@[simp] theorem State.storeSamples_payload (vs : List Sample) (a : Nat) : (s.storeSamples vs).payload a = s.payload a := rfl
@[simp] theorem State.storeSamples_numLsb (vs : List Sample) : (s.storeSamples vs).numLsb = s.numLsb := rfl
@[simp] theorem State.storeSamples_width (vs : List Sample) : (s.storeSamples vs).width = s.width := rfl
@[simp] theorem State.storeSamples_numSamples (vs : List Sample) : (s.storeSamples vs).numSamples = s.numSamples := rfl
@[simp] theorem State.storeSamples_busy (vs : List Sample) : (s.storeSamples vs).busy = s.busy := rfl
@[simp] theorem State.storeSamples_statusWord (vs : List Sample) : (s.storeSamples vs).statusWord = s.statusWord := rfl

/-! ### storePayload -/

@[simp] theorem State.storePayload_phase (vs : List Byte) : (s.storePayload vs).phase = s.phase := rfl
@[simp] theorem State.storePayload_pcmd (vs : List Byte) : (s.storePayload vs).pcmd = s.pcmd := rfl
@[simp] theorem State.storePayload_cfg (vs : List Byte) : (s.storePayload vs).cfg = s.cfg := rfl
@[simp] theorem State.storePayload_nsamp (vs : List Byte) : (s.storePayload vs).nsamp = s.nsamp := rfl
@[simp] theorem State.storePayload_capn (vs : List Byte) : (s.storePayload vs).capn = s.capn := rfl
@[simp] theorem State.storePayload_len (vs : List Byte) : (s.storePayload vs).len = s.len := rfl
@[simp] theorem State.storePayload_nbits (vs : List Byte) : (s.storePayload vs).nbits = s.nbits := rfl
@[simp] theorem State.storePayload_done (vs : List Byte) : (s.storePayload vs).done = s.done := rfl
@[simp] theorem State.storePayload_hzd (vs : List Byte) : (s.storePayload vs).hzd = s.hzd := rfl
@[simp] theorem State.storePayload_ecode (vs : List Byte) : (s.storePayload vs).ecode = s.ecode := rfl
@[simp] theorem State.storePayload_maxbits (vs : List Byte) : (s.storePayload vs).maxbits = s.maxbits := rfl
@[simp] theorem State.storePayload_tagw (vs : List Byte) : (s.storePayload vs).tagw = s.tagw := rfl
@[simp] theorem State.storePayload_capbytes (vs : List Byte) : (s.storePayload vs).capbytes = s.capbytes := rfl
@[simp] theorem State.storePayload_maxpay (vs : List Byte) : (s.storePayload vs).maxpay = s.maxpay := rfl
@[simp] theorem State.storePayload_req (vs : List Byte) : (s.storePayload vs).req = s.req := rfl
@[simp] theorem State.storePayload_mink (vs : List Byte) : (s.storePayload vs).mink = s.mink := rfl
@[simp] theorem State.storePayload_tagval (vs : List Byte) : (s.storePayload vs).tagval = s.tagval := rfl
@[simp] theorem State.storePayload_params (vs : List Byte) : (s.storePayload vs).params = s.params := rfl
@[simp] theorem State.storePayload_sram (vs : List Byte) : (s.storePayload vs).sram = s.sram := rfl
@[simp] theorem State.storePayload_pram (vs : List Byte) : (s.storePayload vs).pram = memWriteList s.pram 0 vs := rfl
@[simp] theorem State.storePayload_rst (vs : List Byte) : (s.storePayload vs).rst = s.rst := rfl
@[simp] theorem State.storePayload_resetCount (vs : List Byte) : (s.storePayload vs).resetCount = s.resetCount := rfl
@[simp] theorem State.storePayload_drawCount (vs : List Byte) : (s.storePayload vs).drawCount = s.drawCount := rfl
@[simp] theorem State.storePayload_script (vs : List Byte) : (s.storePayload vs).script = s.script := rfl
@[simp] theorem State.storePayload_response (vs : List Byte) : (s.storePayload vs).response = s.response := rfl
@[simp] theorem State.storePayload_sample (vs : List Byte) (a : Nat) : (s.storePayload vs).sample a = s.sample a := rfl
@[simp] theorem State.storePayload_samples (vs : List Byte) (a : Nat) : (s.storePayload vs).samples a = s.samples a := rfl
@[simp] theorem State.storePayload_numLsb (vs : List Byte) : (s.storePayload vs).numLsb = s.numLsb := rfl
@[simp] theorem State.storePayload_width (vs : List Byte) : (s.storePayload vs).width = s.width := rfl
@[simp] theorem State.storePayload_numSamples (vs : List Byte) : (s.storePayload vs).numSamples = s.numSamples := rfl
@[simp] theorem State.storePayload_busy (vs : List Byte) : (s.storePayload vs).busy = s.busy := rfl
@[simp] theorem State.storePayload_statusWord (vs : List Byte) : (s.storePayload vs).statusWord = s.statusWord := rfl

/-! ### storeSample -/

@[simp] theorem State.storeSample_phase (i : Nat) (v : Sample) : (s.storeSample i v).phase = s.phase := rfl
@[simp] theorem State.storeSample_pcmd (i : Nat) (v : Sample) : (s.storeSample i v).pcmd = s.pcmd := rfl
@[simp] theorem State.storeSample_cfg (i : Nat) (v : Sample) : (s.storeSample i v).cfg = s.cfg := rfl
@[simp] theorem State.storeSample_nsamp (i : Nat) (v : Sample) : (s.storeSample i v).nsamp = s.nsamp := rfl
@[simp] theorem State.storeSample_capn (i : Nat) (v : Sample) : (s.storeSample i v).capn = s.capn := rfl
@[simp] theorem State.storeSample_len (i : Nat) (v : Sample) : (s.storeSample i v).len = s.len := rfl
@[simp] theorem State.storeSample_nbits (i : Nat) (v : Sample) : (s.storeSample i v).nbits = s.nbits := rfl
@[simp] theorem State.storeSample_done (i : Nat) (v : Sample) : (s.storeSample i v).done = s.done := rfl
@[simp] theorem State.storeSample_hzd (i : Nat) (v : Sample) : (s.storeSample i v).hzd = s.hzd := rfl
@[simp] theorem State.storeSample_ecode (i : Nat) (v : Sample) : (s.storeSample i v).ecode = s.ecode := rfl
@[simp] theorem State.storeSample_maxbits (i : Nat) (v : Sample) : (s.storeSample i v).maxbits = s.maxbits := rfl
@[simp] theorem State.storeSample_tagw (i : Nat) (v : Sample) : (s.storeSample i v).tagw = s.tagw := rfl
@[simp] theorem State.storeSample_capbytes (i : Nat) (v : Sample) : (s.storeSample i v).capbytes = s.capbytes := rfl
@[simp] theorem State.storeSample_maxpay (i : Nat) (v : Sample) : (s.storeSample i v).maxpay = s.maxpay := rfl
@[simp] theorem State.storeSample_req (i : Nat) (v : Sample) : (s.storeSample i v).req = s.req := rfl
@[simp] theorem State.storeSample_mink (i : Nat) (v : Sample) : (s.storeSample i v).mink = s.mink := rfl
@[simp] theorem State.storeSample_tagval (i : Nat) (v : Sample) : (s.storeSample i v).tagval = s.tagval := rfl
@[simp] theorem State.storeSample_params (i : Nat) (v : Sample) : (s.storeSample i v).params = s.params := rfl
@[simp] theorem State.storeSample_sram (i : Nat) (v : Sample) : (s.storeSample i v).sram = memWrite s.sram i v := rfl
@[simp] theorem State.storeSample_pram (i : Nat) (v : Sample) : (s.storeSample i v).pram = s.pram := rfl
@[simp] theorem State.storeSample_rst (i : Nat) (v : Sample) : (s.storeSample i v).rst = s.rst := rfl
@[simp] theorem State.storeSample_resetCount (i : Nat) (v : Sample) : (s.storeSample i v).resetCount = s.resetCount := rfl
@[simp] theorem State.storeSample_drawCount (i : Nat) (v : Sample) : (s.storeSample i v).drawCount = s.drawCount := rfl
@[simp] theorem State.storeSample_script (i : Nat) (v : Sample) : (s.storeSample i v).script = s.script := rfl
@[simp] theorem State.storeSample_response (i : Nat) (v : Sample) : (s.storeSample i v).response = s.response := rfl
@[simp] theorem State.storeSample_payloadByte (i : Nat) (v : Sample) (a : Nat) : (s.storeSample i v).payloadByte a = s.payloadByte a := rfl
@[simp] theorem State.storeSample_payload (i : Nat) (v : Sample) (a : Nat) : (s.storeSample i v).payload a = s.payload a := rfl
@[simp] theorem State.storeSample_numLsb (i : Nat) (v : Sample) : (s.storeSample i v).numLsb = s.numLsb := rfl
@[simp] theorem State.storeSample_width (i : Nat) (v : Sample) : (s.storeSample i v).width = s.width := rfl
@[simp] theorem State.storeSample_numSamples (i : Nat) (v : Sample) : (s.storeSample i v).numSamples = s.numSamples := rfl
@[simp] theorem State.storeSample_busy (i : Nat) (v : Sample) : (s.storeSample i v).busy = s.busy := rfl
@[simp] theorem State.storeSample_statusWord (i : Nat) (v : Sample) : (s.storeSample i v).statusWord = s.statusWord := rfl

/-! ### storePayloadWord -/

@[simp] theorem State.storePayloadWord_phase (j : Nat) (v : Word) : (s.storePayloadWord j v).phase = s.phase := rfl
@[simp] theorem State.storePayloadWord_pcmd (j : Nat) (v : Word) : (s.storePayloadWord j v).pcmd = s.pcmd := rfl
@[simp] theorem State.storePayloadWord_cfg (j : Nat) (v : Word) : (s.storePayloadWord j v).cfg = s.cfg := rfl
@[simp] theorem State.storePayloadWord_nsamp (j : Nat) (v : Word) : (s.storePayloadWord j v).nsamp = s.nsamp := rfl
@[simp] theorem State.storePayloadWord_capn (j : Nat) (v : Word) : (s.storePayloadWord j v).capn = s.capn := rfl
@[simp] theorem State.storePayloadWord_len (j : Nat) (v : Word) : (s.storePayloadWord j v).len = s.len := rfl
@[simp] theorem State.storePayloadWord_nbits (j : Nat) (v : Word) : (s.storePayloadWord j v).nbits = s.nbits := rfl
@[simp] theorem State.storePayloadWord_done (j : Nat) (v : Word) : (s.storePayloadWord j v).done = s.done := rfl
@[simp] theorem State.storePayloadWord_hzd (j : Nat) (v : Word) : (s.storePayloadWord j v).hzd = s.hzd := rfl
@[simp] theorem State.storePayloadWord_ecode (j : Nat) (v : Word) : (s.storePayloadWord j v).ecode = s.ecode := rfl
@[simp] theorem State.storePayloadWord_maxbits (j : Nat) (v : Word) : (s.storePayloadWord j v).maxbits = s.maxbits := rfl
@[simp] theorem State.storePayloadWord_tagw (j : Nat) (v : Word) : (s.storePayloadWord j v).tagw = s.tagw := rfl
@[simp] theorem State.storePayloadWord_capbytes (j : Nat) (v : Word) : (s.storePayloadWord j v).capbytes = s.capbytes := rfl
@[simp] theorem State.storePayloadWord_maxpay (j : Nat) (v : Word) : (s.storePayloadWord j v).maxpay = s.maxpay := rfl
@[simp] theorem State.storePayloadWord_req (j : Nat) (v : Word) : (s.storePayloadWord j v).req = s.req := rfl
@[simp] theorem State.storePayloadWord_mink (j : Nat) (v : Word) : (s.storePayloadWord j v).mink = s.mink := rfl
@[simp] theorem State.storePayloadWord_tagval (j : Nat) (v : Word) : (s.storePayloadWord j v).tagval = s.tagval := rfl
@[simp] theorem State.storePayloadWord_params (j : Nat) (v : Word) : (s.storePayloadWord j v).params = s.params := rfl
@[simp] theorem State.storePayloadWord_sram (j : Nat) (v : Word) : (s.storePayloadWord j v).sram = s.sram := rfl
@[simp] theorem State.storePayloadWord_pram (j : Nat) (v : Word) : (s.storePayloadWord j v).pram = memWriteList s.pram j [v.extractLsb' 0 8, v.extractLsb' 8 8, v.extractLsb' 16 8, v.extractLsb' 24 8] := rfl
@[simp] theorem State.storePayloadWord_rst (j : Nat) (v : Word) : (s.storePayloadWord j v).rst = s.rst := rfl
@[simp] theorem State.storePayloadWord_resetCount (j : Nat) (v : Word) : (s.storePayloadWord j v).resetCount = s.resetCount := rfl
@[simp] theorem State.storePayloadWord_drawCount (j : Nat) (v : Word) : (s.storePayloadWord j v).drawCount = s.drawCount := rfl
@[simp] theorem State.storePayloadWord_script (j : Nat) (v : Word) : (s.storePayloadWord j v).script = s.script := rfl
@[simp] theorem State.storePayloadWord_response (j : Nat) (v : Word) : (s.storePayloadWord j v).response = s.response := rfl
@[simp] theorem State.storePayloadWord_sample (j : Nat) (v : Word) (a : Nat) : (s.storePayloadWord j v).sample a = s.sample a := rfl
@[simp] theorem State.storePayloadWord_samples (j : Nat) (v : Word) (a : Nat) : (s.storePayloadWord j v).samples a = s.samples a := rfl
@[simp] theorem State.storePayloadWord_numLsb (j : Nat) (v : Word) : (s.storePayloadWord j v).numLsb = s.numLsb := rfl
@[simp] theorem State.storePayloadWord_width (j : Nat) (v : Word) : (s.storePayloadWord j v).width = s.width := rfl
@[simp] theorem State.storePayloadWord_numSamples (j : Nat) (v : Word) : (s.storePayloadWord j v).numSamples = s.numSamples := rfl
@[simp] theorem State.storePayloadWord_busy (j : Nat) (v : Word) : (s.storePayloadWord j v).busy = s.busy := rfl
@[simp] theorem State.storePayloadWord_statusWord (j : Nat) (v : Word) : (s.storePayloadWord j v).statusWord = s.statusWord := rfl

/-! ### writeStatus -/

@[simp] theorem State.writeStatus_phase (v : Word) : (s.writeStatus v).phase = s.phase := rfl
@[simp] theorem State.writeStatus_pcmd (v : Word) : (s.writeStatus v).pcmd = s.pcmd := rfl
@[simp] theorem State.writeStatus_cfg (v : Word) : (s.writeStatus v).cfg = s.cfg := rfl
@[simp] theorem State.writeStatus_nsamp (v : Word) : (s.writeStatus v).nsamp = s.nsamp := rfl
@[simp] theorem State.writeStatus_capn (v : Word) : (s.writeStatus v).capn = s.capn := rfl
@[simp] theorem State.writeStatus_len (v : Word) : (s.writeStatus v).len = s.len := rfl
@[simp] theorem State.writeStatus_nbits (v : Word) : (s.writeStatus v).nbits = s.nbits := rfl
@[simp] theorem State.writeStatus_done (v : Word) : (s.writeStatus v).done = (s.done && !v.getLsbD 1) := rfl
@[simp] theorem State.writeStatus_hzd (v : Word) : (s.writeStatus v).hzd = (s.hzd && !v.getLsbD 3) := rfl
@[simp] theorem State.writeStatus_ecode (v : Word) : (s.writeStatus v).ecode = s.ecode := rfl
@[simp] theorem State.writeStatus_maxbits (v : Word) : (s.writeStatus v).maxbits = s.maxbits := rfl
@[simp] theorem State.writeStatus_tagw (v : Word) : (s.writeStatus v).tagw = s.tagw := rfl
@[simp] theorem State.writeStatus_capbytes (v : Word) : (s.writeStatus v).capbytes = s.capbytes := rfl
@[simp] theorem State.writeStatus_maxpay (v : Word) : (s.writeStatus v).maxpay = s.maxpay := rfl
@[simp] theorem State.writeStatus_req (v : Word) : (s.writeStatus v).req = s.req := rfl
@[simp] theorem State.writeStatus_mink (v : Word) : (s.writeStatus v).mink = s.mink := rfl
@[simp] theorem State.writeStatus_tagval (v : Word) : (s.writeStatus v).tagval = s.tagval := rfl
@[simp] theorem State.writeStatus_params (v : Word) : (s.writeStatus v).params = s.params := rfl
@[simp] theorem State.writeStatus_sram (v : Word) : (s.writeStatus v).sram = s.sram := rfl
@[simp] theorem State.writeStatus_pram (v : Word) : (s.writeStatus v).pram = s.pram := rfl
@[simp] theorem State.writeStatus_rst (v : Word) : (s.writeStatus v).rst = s.rst := rfl
@[simp] theorem State.writeStatus_resetCount (v : Word) : (s.writeStatus v).resetCount = s.resetCount := rfl
@[simp] theorem State.writeStatus_drawCount (v : Word) : (s.writeStatus v).drawCount = s.drawCount := rfl
@[simp] theorem State.writeStatus_script (v : Word) : (s.writeStatus v).script = s.script := rfl
@[simp] theorem State.writeStatus_response (v : Word) : (s.writeStatus v).response = s.response := rfl
@[simp] theorem State.writeStatus_sample (v : Word) (a : Nat) : (s.writeStatus v).sample a = s.sample a := rfl
@[simp] theorem State.writeStatus_payloadByte (v : Word) (a : Nat) : (s.writeStatus v).payloadByte a = s.payloadByte a := rfl
@[simp] theorem State.writeStatus_samples (v : Word) (a : Nat) : (s.writeStatus v).samples a = s.samples a := rfl
@[simp] theorem State.writeStatus_payload (v : Word) (a : Nat) : (s.writeStatus v).payload a = s.payload a := rfl
@[simp] theorem State.writeStatus_numLsb (v : Word) : (s.writeStatus v).numLsb = s.numLsb := rfl
@[simp] theorem State.writeStatus_width (v : Word) : (s.writeStatus v).width = s.width := rfl
@[simp] theorem State.writeStatus_numSamples (v : Word) : (s.writeStatus v).numSamples = s.numSamples := rfl
@[simp] theorem State.writeStatus_busy (v : Word) : (s.writeStatus v).busy = s.busy := rfl

/-! ### dropWrite -/

@[simp] theorem State.dropWrite_phase : (s.dropWrite).phase = s.phase := rfl
@[simp] theorem State.dropWrite_pcmd : (s.dropWrite).pcmd = s.pcmd := rfl
@[simp] theorem State.dropWrite_cfg : (s.dropWrite).cfg = s.cfg := rfl
@[simp] theorem State.dropWrite_nsamp : (s.dropWrite).nsamp = s.nsamp := rfl
@[simp] theorem State.dropWrite_capn : (s.dropWrite).capn = s.capn := rfl
@[simp] theorem State.dropWrite_len : (s.dropWrite).len = s.len := rfl
@[simp] theorem State.dropWrite_nbits : (s.dropWrite).nbits = s.nbits := rfl
@[simp] theorem State.dropWrite_done : (s.dropWrite).done = s.done := rfl
@[simp] theorem State.dropWrite_hzd : (s.dropWrite).hzd = true := rfl
@[simp] theorem State.dropWrite_ecode : (s.dropWrite).ecode = s.ecode := rfl
@[simp] theorem State.dropWrite_maxbits : (s.dropWrite).maxbits = s.maxbits := rfl
@[simp] theorem State.dropWrite_tagw : (s.dropWrite).tagw = s.tagw := rfl
@[simp] theorem State.dropWrite_capbytes : (s.dropWrite).capbytes = s.capbytes := rfl
@[simp] theorem State.dropWrite_maxpay : (s.dropWrite).maxpay = s.maxpay := rfl
@[simp] theorem State.dropWrite_req : (s.dropWrite).req = s.req := rfl
@[simp] theorem State.dropWrite_mink : (s.dropWrite).mink = s.mink := rfl
@[simp] theorem State.dropWrite_tagval : (s.dropWrite).tagval = s.tagval := rfl
@[simp] theorem State.dropWrite_params : (s.dropWrite).params = s.params := rfl
@[simp] theorem State.dropWrite_sram : (s.dropWrite).sram = s.sram := rfl
@[simp] theorem State.dropWrite_pram : (s.dropWrite).pram = s.pram := rfl
@[simp] theorem State.dropWrite_rst : (s.dropWrite).rst = s.rst := rfl
@[simp] theorem State.dropWrite_resetCount : (s.dropWrite).resetCount = s.resetCount := rfl
@[simp] theorem State.dropWrite_drawCount : (s.dropWrite).drawCount = s.drawCount := rfl
@[simp] theorem State.dropWrite_script : (s.dropWrite).script = s.script := rfl
@[simp] theorem State.dropWrite_response : (s.dropWrite).response = s.response := rfl
@[simp] theorem State.dropWrite_sample (a : Nat) : (s.dropWrite).sample a = s.sample a := rfl
@[simp] theorem State.dropWrite_payloadByte (a : Nat) : (s.dropWrite).payloadByte a = s.payloadByte a := rfl
@[simp] theorem State.dropWrite_samples (a : Nat) : (s.dropWrite).samples a = s.samples a := rfl
@[simp] theorem State.dropWrite_payload (a : Nat) : (s.dropWrite).payload a = s.payload a := rfl
@[simp] theorem State.dropWrite_numLsb : (s.dropWrite).numLsb = s.numLsb := rfl
@[simp] theorem State.dropWrite_width : (s.dropWrite).width = s.width := rfl
@[simp] theorem State.dropWrite_numSamples : (s.dropWrite).numSamples = s.numSamples := rfl
@[simp] theorem State.dropWrite_busy : (s.dropWrite).busy = s.busy := rfl

/-! ### draw -/

@[simp] theorem State.draw_phase : (s.draw).phase = s.phase := rfl
@[simp] theorem State.draw_pcmd : (s.draw).pcmd = s.pcmd := rfl
@[simp] theorem State.draw_cfg : (s.draw).cfg = s.cfg := rfl
@[simp] theorem State.draw_nsamp : (s.draw).nsamp = s.nsamp := rfl
@[simp] theorem State.draw_capn : (s.draw).capn = s.capn := rfl
@[simp] theorem State.draw_len : (s.draw).len = s.len := rfl
@[simp] theorem State.draw_nbits : (s.draw).nbits = s.nbits := rfl
@[simp] theorem State.draw_done : (s.draw).done = s.done := rfl
@[simp] theorem State.draw_hzd : (s.draw).hzd = s.hzd := rfl
@[simp] theorem State.draw_ecode : (s.draw).ecode = s.ecode := rfl
@[simp] theorem State.draw_maxbits : (s.draw).maxbits = s.maxbits := rfl
@[simp] theorem State.draw_tagw : (s.draw).tagw = s.tagw := rfl
@[simp] theorem State.draw_capbytes : (s.draw).capbytes = s.capbytes := rfl
@[simp] theorem State.draw_maxpay : (s.draw).maxpay = s.maxpay := rfl
@[simp] theorem State.draw_req : (s.draw).req = s.req := rfl
@[simp] theorem State.draw_mink : (s.draw).mink = s.mink := rfl
@[simp] theorem State.draw_tagval : (s.draw).tagval = s.tagval := rfl
@[simp] theorem State.draw_params : (s.draw).params = s.params := rfl
@[simp] theorem State.draw_sram : (s.draw).sram = s.sram := rfl
@[simp] theorem State.draw_pram : (s.draw).pram = s.pram := rfl
@[simp] theorem State.draw_rst : (s.draw).rst = s.rst := rfl
@[simp] theorem State.draw_resetCount : (s.draw).resetCount = s.resetCount := rfl
@[simp] theorem State.draw_drawCount : (s.draw).drawCount = s.drawCount + 1 := rfl
@[simp] theorem State.draw_script : (s.draw).script = s.script := rfl
@[simp] theorem State.draw_response : (s.draw).response = s.response := rfl
@[simp] theorem State.draw_sample (a : Nat) : (s.draw).sample a = s.sample a := rfl
@[simp] theorem State.draw_payloadByte (a : Nat) : (s.draw).payloadByte a = s.payloadByte a := rfl
@[simp] theorem State.draw_samples (a : Nat) : (s.draw).samples a = s.samples a := rfl
@[simp] theorem State.draw_payload (a : Nat) : (s.draw).payload a = s.payload a := rfl
@[simp] theorem State.draw_numLsb : (s.draw).numLsb = s.numLsb := rfl
@[simp] theorem State.draw_width : (s.draw).width = s.width := rfl
@[simp] theorem State.draw_numSamples : (s.draw).numSamples = s.numSamples := rfl
@[simp] theorem State.draw_busy : (s.draw).busy = s.busy := rfl
@[simp] theorem State.draw_statusWord : (s.draw).statusWord = s.statusWord := rfl

/-! ### answer -/

@[simp] theorem State.answer_phase (r : Option BusResponse) : (s.answer r).phase = s.phase := rfl
@[simp] theorem State.answer_pcmd (r : Option BusResponse) : (s.answer r).pcmd = s.pcmd := rfl
@[simp] theorem State.answer_cfg (r : Option BusResponse) : (s.answer r).cfg = s.cfg := rfl
@[simp] theorem State.answer_nsamp (r : Option BusResponse) : (s.answer r).nsamp = s.nsamp := rfl
@[simp] theorem State.answer_capn (r : Option BusResponse) : (s.answer r).capn = s.capn := rfl
@[simp] theorem State.answer_len (r : Option BusResponse) : (s.answer r).len = s.len := rfl
@[simp] theorem State.answer_nbits (r : Option BusResponse) : (s.answer r).nbits = s.nbits := rfl
@[simp] theorem State.answer_done (r : Option BusResponse) : (s.answer r).done = s.done := rfl
@[simp] theorem State.answer_hzd (r : Option BusResponse) : (s.answer r).hzd = s.hzd := rfl
@[simp] theorem State.answer_ecode (r : Option BusResponse) : (s.answer r).ecode = s.ecode := rfl
@[simp] theorem State.answer_maxbits (r : Option BusResponse) : (s.answer r).maxbits = s.maxbits := rfl
@[simp] theorem State.answer_tagw (r : Option BusResponse) : (s.answer r).tagw = s.tagw := rfl
@[simp] theorem State.answer_capbytes (r : Option BusResponse) : (s.answer r).capbytes = s.capbytes := rfl
@[simp] theorem State.answer_maxpay (r : Option BusResponse) : (s.answer r).maxpay = s.maxpay := rfl
@[simp] theorem State.answer_req (r : Option BusResponse) : (s.answer r).req = s.req := rfl
@[simp] theorem State.answer_mink (r : Option BusResponse) : (s.answer r).mink = s.mink := rfl
@[simp] theorem State.answer_tagval (r : Option BusResponse) : (s.answer r).tagval = s.tagval := rfl
@[simp] theorem State.answer_params (r : Option BusResponse) : (s.answer r).params = s.params := rfl
@[simp] theorem State.answer_sram (r : Option BusResponse) : (s.answer r).sram = s.sram := rfl
@[simp] theorem State.answer_pram (r : Option BusResponse) : (s.answer r).pram = s.pram := rfl
@[simp] theorem State.answer_rst (r : Option BusResponse) : (s.answer r).rst = s.rst := rfl
@[simp] theorem State.answer_resetCount (r : Option BusResponse) : (s.answer r).resetCount = s.resetCount := rfl
@[simp] theorem State.answer_drawCount (r : Option BusResponse) : (s.answer r).drawCount = s.drawCount := rfl
@[simp] theorem State.answer_script (r : Option BusResponse) : (s.answer r).script = s.script := rfl
@[simp] theorem State.answer_response (r : Option BusResponse) : (s.answer r).response = r := rfl
@[simp] theorem State.answer_sample (r : Option BusResponse) (a : Nat) : (s.answer r).sample a = s.sample a := rfl
@[simp] theorem State.answer_payloadByte (r : Option BusResponse) (a : Nat) : (s.answer r).payloadByte a = s.payloadByte a := rfl
@[simp] theorem State.answer_samples (r : Option BusResponse) (a : Nat) : (s.answer r).samples a = s.samples a := rfl
@[simp] theorem State.answer_payload (r : Option BusResponse) (a : Nat) : (s.answer r).payload a = s.payload a := rfl
@[simp] theorem State.answer_numLsb (r : Option BusResponse) : (s.answer r).numLsb = s.numLsb := rfl
@[simp] theorem State.answer_width (r : Option BusResponse) : (s.answer r).width = s.width := rfl
@[simp] theorem State.answer_numSamples (r : Option BusResponse) : (s.answer r).numSamples = s.numSamples := rfl
@[simp] theorem State.answer_busy (r : Option BusResponse) : (s.answer r).busy = s.busy := rfl
@[simp] theorem State.answer_statusWord (r : Option BusResponse) : (s.answer r).statusWord = s.statusWord := rfl

/-- `complete` is the completion with code 0 (43_control.md R193). -/
@[simp] theorem State.complete_eq : s.complete = s.finish .noError := rfl

/-- `raise E` is the completion with code E (R193). -/
@[simp] theorem State.raise_eq (e : ErrorCode) : s.raise e = s.finish e := rfl

end

end Sys2Proof.Machine
end

