-- ==== Sys2Proof/Laws/Memory.lean ====
section
/-! SUPPORT. The RAM operations: what a read sees after a write, and that every write keeps the canonical form. -/

namespace Sys2Proof.Machine

section
variable {w : Nat}

theorem memRead_memWrite (m : Memory w) (i a : Nat) (v : BitVec w) :
    memRead (memWrite m i v) a = if a = i then some v else memRead m a := by
  induction m with
  | nil => simp only [memWrite, memRead, @eq_comm _ i a]
  | cons c m ih =>
    simp only [memWrite]
    split
    · simp only [memRead, @eq_comm _ i a]
    · split
      · rename_i hi
        simp only [memRead, ← hi, @eq_comm _ i a]
        split <;> rfl
      · rename_i hi
        simp only [memRead, ih]
        by_cases ha : c.1 = a
        · have h : ¬a = i := fun e => hi (e ▸ ha).symm
          rw [if_pos ha, if_neg h, if_pos ha]
        · rw [if_neg ha, if_neg ha]

theorem memRead_memWriteList (vs : List (BitVec w)) (m : Memory w) (i a : Nat) :
    memRead (memWriteList m i vs) a = if i ≤ a ∧ a < i + vs.length then vs[a - i]? else memRead m a := by
  induction vs generalizing m i with
  | nil =>
    have h : ¬(i ≤ a ∧ a < i + 0) := by omega
    simp only [memWriteList, List.length_nil, if_neg h]
  | cons v vs ih =>
    simp only [memWriteList, ih, memRead_memWrite, List.length_cons]
    rcases Nat.lt_trichotomy a i with h | h | h
    · have h1 : ¬(i + 1 ≤ a ∧ a < i + 1 + vs.length) := by omega
      have h2 : ¬(i ≤ a ∧ a < i + (vs.length + 1)) := by omega
      have h3 : a ≠ i := by omega
      rw [if_neg h1, if_neg h3, if_neg h2]
    · subst h
      simp
    · obtain ⟨d, rfl⟩ : ∃ d, a = i + 1 + d := ⟨a - (i + 1), by omega⟩
      have h3 : i + 1 + d ≠ i := by omega
      have e1 : i + 1 + d - (i + 1) = d := by omega
      have e2 : i + 1 + d - i = d + 1 := by omega
      have e : (i + 1 ≤ i + 1 + d ∧ i + 1 + d < i + 1 + vs.length) ↔
          (i ≤ i + 1 + d ∧ i + 1 + d < i + (vs.length + 1)) := by omega
      simp only [e1, e2, h3, e, List.getElem?_cons_succ, if_false]

/-- Every index a write lists was listed before or is the one written. -/
theorem mem_memWrite {m : Memory w} {i : Nat} {v : BitVec w} {c : Nat × BitVec w} (h : c ∈ memWrite m i v) :
    c ∈ m ∨ c = (i, v) := by
  induction m with
  | nil => simpa [memWrite] using h
  | cons d m ih =>
    simp only [memWrite] at h
    split at h
    · simp only [List.mem_cons] at h ⊢; tauto
    · split at h
      · simp only [List.mem_cons] at h ⊢; tauto
      · simp only [List.mem_cons] at h ⊢
        rcases h with h | h
        · exact .inl (.inl h)
        · rcases ih h with h | h <;> tauto

theorem memWrite_wf {m : Memory w} (h : Memory.wf m) (i : Nat) (v : BitVec w) : Memory.wf (memWrite m i v) := by
  induction m with
  | nil => simp [memWrite]
  | cons d m ih =>
    obtain ⟨hd, hm⟩ := List.pairwise_cons.1 h
    simp only [memWrite]
    split
    · rename_i hi
      refine List.pairwise_cons.2 ⟨fun c hc => ?_, h⟩
      rcases List.mem_cons.1 hc with rfl | hc
      · exact hi
      · exact Nat.lt_trans hi (hd c hc)
    · split
      · rename_i hi
        subst hi
        exact List.pairwise_cons.2 ⟨hd, hm⟩
      · refine List.pairwise_cons.2 ⟨fun c hc => ?_, ih hm⟩
        rcases mem_memWrite hc with hc | rfl
        · exact hd c hc
        · show d.1 < i
          omega

theorem memWrite_below {m : Memory w} {n i : Nat} (h : Memory.below n m) (hi : i < n) (v : BitVec w) :
    Memory.below n (memWrite m i v) := fun c hc => by
  rcases mem_memWrite hc with hc | rfl
  · exact h c hc
  · exact hi

theorem memWriteList_wf {m : Memory w} (h : Memory.wf m) (i : Nat) (vs : List (BitVec w)) :
    Memory.wf (memWriteList m i vs) := by
  induction vs generalizing m i with
  | nil => exact h
  | cons v vs ih => exact ih (memWrite_wf h i v) (i + 1)

theorem memWriteList_below {m : Memory w} {n : Nat} (h : Memory.below n m) (i : Nat) (vs : List (BitVec w))
    (hi : i + vs.length ≤ n) : Memory.below n (memWriteList m i vs) := by
  induction vs generalizing m i with
  | nil => exact h
  | cons v vs ih =>
    rw [List.length_cons] at hi
    exact ih (memWrite_below h (by omega) v) (i + 1) (by omega)

end

section
variable (s : State)

@[simp] theorem State.samples_length (n : Nat) : (s.samples n).length = n := by simp [State.samples]

@[simp] theorem State.payload_length (n : Nat) : (s.payload n).length = n := by simp [State.payload]

theorem State.samples_getD {n i : Nat} (h : i < n) : (s.samples n).getD i 0#16 = s.sample i := by
  simp [State.samples, h]

theorem State.payload_getD {n j : Nat} (h : j < n) : (s.payload n).getD j 0#8 = s.payloadByte j := by
  simp [State.payload, h]

theorem State.storeSample_sample (i a : Nat) (v : Sample) :
    (s.storeSample i v).sample a = if a = i then v else s.sample a := by
  simp only [State.sample, State.storeSample_sram, State.storeSample_resetCount, memRead_memWrite]
  split <;> rfl

theorem State.storeSamples_sample (vs : List Sample) (a : Nat) :
    (s.storeSamples vs).sample a = if a < vs.length then vs.getD a 0#16 else s.sample a := by
  simp only [State.sample, State.storeSamples_sram, State.storeSamples_resetCount, memRead_memWriteList]
  by_cases h : a < vs.length
  · simp [h, List.getD]
  · simp [h]

theorem State.storePayload_payloadByte (vs : List Byte) (a : Nat) :
    (s.storePayload vs).payloadByte a = if a < vs.length then vs.getD a 0#8 else s.payloadByte a := by
  simp only [State.payloadByte, State.storePayload_pram, State.storePayload_resetCount, memRead_memWriteList]
  by_cases h : a < vs.length
  · simp [h, List.getD]
  · simp [h]

theorem State.storePayloadWord_payloadByte (j a : Nat) (v : Word) :
    (s.storePayloadWord j v).payloadByte a =
      if j ≤ a ∧ a < j + 4 then v.extractLsb' (8 * (a - j)) 8 else s.payloadByte a := by
  simp only [State.payloadByte, State.storePayloadWord_pram, State.storePayloadWord_resetCount, memRead_memWriteList,
    List.length_cons, List.length_nil, Nat.zero_add, Nat.reduceAdd]
  split
  · rename_i h
    obtain ⟨d, rfl⟩ : ∃ d, a = j + d := ⟨a - j, by omega⟩
    have hd : d < 4 := by omega
    rw [Nat.add_sub_cancel_left]
    interval_cases d <;> rfl
  · rfl

end

end Sys2Proof.Machine
end

