-- ==== Sys2Proof/Laws/Ops.lean ====
section
/-! SUPPORT. The shared operations of the commands: the common checks, the recorded registers, the two directions of the
codec on State. -/

namespace Sys2Proof.Machine

theorem depth_cases (d : BitVec 3) : ¬(d ≠ 1 ∧ d ≠ 2) ↔ d.toNat = 1 ∨ d.toNat = 2 := by
  revert d; decide

theorem readsSamples_iff (i : Instr) : readsSamples i = true ↔ i ∈ [Instr.ilv, .ilvt, .dilv, .dilvt] := by
  cases i <;> simp [readsSamples]

/-- The common checks find nothing exactly when the start is legal (60_exceptions.md R210). -/
theorem precheck_none_iff (i : Instr) (s : State) : precheck i s = none ↔ LegalStart i s := by
  unfold precheck
  split
  · rename_i h
    refine ⟨fun e => (nomatch e), fun l => absurd h ((depth_cases _).2 l.depth)⟩
  rename_i hd
  split
  · rename_i h
    refine ⟨fun e => (nomatch e), fun l => ?_⟩
    have := l.kPos; have := l.kLe
    simp only [State.numLsb, State.width] at h
    omega
  rename_i hk
  split
  · rename_i h
    refine ⟨fun e => (nomatch e), fun l => ?_⟩
    have := l.samples ((readsSamples_iff i).1 h.1)
    have h2 := h.2
    simp only [State.numSamples] at h2
    omega
  rename_i hn
  simp only [State.numLsb, State.width] at hk
  refine ⟨fun _ => ⟨(depth_cases _).1 hd, by omega, by omega, fun hi => ?_⟩, fun _ => rfl⟩
  have hi := (readsSamples_iff i).2 hi
  simp only [State.numSamples] at hn
  exact Nat.le_of_not_lt fun h => hn ⟨hi, h⟩

/-- A legal start runs the body. -/
theorem afterPrecheck_legal {i : Instr} {s : State} (h : LegalStart i s) (body : State → State) :
    afterPrecheck i s body = body s := by
  simp [afterPrecheck, (precheck_none_iff i s).2 h]

/-- A command that begins with the common checks ends with an error and no other effect, or had a legal start. -/
theorem afterPrecheck_cases (i : Instr) (s : State) (body : State → State) :
    (∃ e, e ≠ ErrorCode.noError ∧ afterPrecheck i s body = s.finish e) ∨
      (LegalStart i s ∧ afterPrecheck i s body = body s) := by
  cases h : precheck i s with
  | none => exact .inr ⟨(precheck_none_iff i s).1 h, afterPrecheck_legal ((precheck_none_iff i s).1 h) body⟩
  | some e =>
    refine .inl ⟨e, ?_, by simp [afterPrecheck, h]⟩
    rintro rfl
    unfold precheck at h
    split at h
    · cases h
    · split at h
      · cases h
      · split at h <;> cases h

/-- A legal K is at most 16. -/
theorem LegalStart.k_le {i : Instr} {s : State} (h : LegalStart i s) : s.cfg.k.toNat ≤ 16 := by
  have := h.kLe
  rcases h.depth with d | d <;> omega

/-- n × k of a 28-bit count and a legal k is below 2^32 (41_capacity.md R153). -/
theorem mul_k_le (n : BitVec 28) {k : Nat} (hk : k ≤ 16) : n.toNat * k ≤ (2 ^ 28 - 1) * 16 := by
  have : n.toNat ≤ 2 ^ 28 - 1 := by have := n.isLt; omega
  exact Nat.mul_le_mul this hk

theorem bitLength_le {m b : Nat} (h : m < 2 ^ b) : bitLength m ≤ b := by
  unfold bitLength
  split
  · omega
  · rename_i h0
    exact (Nat.log2_lt h0).2 h

theorem lt_two_pow_bitLength (m : Nat) : m < 2 ^ bitLength m := by
  unfold bitLength
  split
  · simp [*]
  · exact Nat.lt_log2_self

theorem bitLength_mono {m n : Nat} (h : m ≤ n) : bitLength m ≤ bitLength n :=
  bitLength_le (Nat.lt_of_le_of_lt h (lt_two_pow_bitLength n))

/-- TAGW never exceeds 4 (R153). -/
theorem tagwOf_le (n : BitVec 28) {k : Nat} (hk : k ≤ 16) : tagwOf n.toNat k ≤ 4 := by
  have h := mul_k_le n hk
  have : bitLength (maxbitsOf n.toNat k) ≤ 32 := bitLength_le (by unfold maxbitsOf; omega)
  unfold tagwOf
  omega

/-- The three capacity registers hold exactly what the capacity functions give (R153). -/
theorem capOut_recorded (s : State) (hk : s.cfg.k.toNat ≤ 16) :
    s.CapacityRecorded (s.capOut s.capSamples s.numLsb) := by
  have h := mul_k_le s.capn hk
  have ht := tagwOf_le s.capn hk
  have e : maxbitsOf s.capn.toNat s.cfg.k.toNat = s.capn.toNat * s.cfg.k.toNat := rfl
  refine ⟨?_, ?_, ?_⟩
  · simp only [State.capOut_maxbits, State.capSamples, State.numLsb, BitVec.toNat_ofNat, e]
    omega
  · simp only [State.capOut_tagw, State.capSamples, State.numLsb, BitVec.toNat_ofNat]
    rw [Nat.mod_eq_of_lt (by omega)]
    rfl
  · simp only [State.capOut_capbytes, State.capSamples, State.numLsb, BitVec.toNat_ofNat, capbytesOf, e]
    omega

/-- The least k' search answers a k' in 1..W that passes with none passing before it, or 0 with none passing. -/
theorem leastK_spec (W : Nat) (p : Nat → Bool) : LeastOrZero W (fun k => p k = true) (leastK W p) := by
  unfold leastK LeastOrZero
  cases h : ((List.range W).map (· + 1)).find? p with
  | none =>
    right
    refine ⟨rfl, fun k h1 h2 hp => ?_⟩
    rw [List.find?_eq_none] at h
    exact h k (List.mem_map.2 ⟨k - 1, List.mem_range.2 (by omega), by omega⟩) hp
  | some v =>
    left
    rw [List.find?_eq_some_iff_getElem] at h
    obtain ⟨hp, j, hj, e, hlt⟩ := h
    simp only [List.length_map, List.length_range] at hj
    simp only [List.getElem_map, List.getElem_range] at e hlt
    subst e
    refine ⟨by simp, by simpa using hj, hp, fun k h1 h2 hk => ?_⟩
    have := hlt (k - 1) (by simp at h2; omega)
    rw [Nat.sub_add_cancel h1, hk] at this
    cases this

theorem leastK_le (W : Nat) (p : Nat → Bool) : leastK W p ≤ W := by
  rcases leastK_spec W p with h | h <;> omega

section
variable (s : State)

theorem State.interleave_eq (b : List Bool) :
    s.interleave b = s.storeSamples ((pack (s.samples s.numSamples) b s.numLsb).take (numChunks b.length s.numLsb)) :=
  rfl

/-- What the entries hold after an interleave that fits its samples: a new low part where a chunk falls, the old entry
elsewhere (40_bit_codec.md R112, R114). -/
theorem State.interleave_sample (b : List Bool) (hk : 1 ≤ s.numLsb) (hfit : b.length ≤ s.numSamples * s.numLsb)
    (i : Nat) :
    (s.interleave b).sample i =
      if i * s.numLsb < b.length then replaceLow (s.sample i) s.numLsb (chunk b s.numLsb i) else s.sample i := by
  rw [s.interleave_eq, State.storeSamples_sample]
  simp only [List.length_take, pack_length, State.samples_length]
  have hlt : i < numChunks b.length s.numLsb ↔ i * s.numLsb < b.length := lt_numChunks hk
  by_cases h : i * s.numLsb < b.length
  · have hi : i < numChunks b.length s.numLsb := hlt.2 h
    have hN : i < s.numSamples := by
      by_contra hn
      have : s.numSamples * s.numLsb ≤ i * s.numLsb := Nat.mul_le_mul_right _ (by omega)
      omega
    have e : ((pack (s.samples s.numSamples) b s.numLsb).take (numChunks b.length s.numLsb)).getD i 0#16 =
        (pack (s.samples s.numSamples) b s.numLsb).getD i 0#16 := by
      simp [List.getD, hi]
    rw [if_pos (by omega), if_pos h, e, pack_getD _ _ _ (by simpa using hN), if_pos hi, s.samples_getD hN]
  · have hi : ¬i < numChunks b.length s.numLsb := fun hh => h (hlt.1 hh)
    rw [if_neg (by omega), if_neg h]

theorem State.deinterleave_length (n : Nat) : (s.deinterleave n).length = n / 8 := by simp [State.deinterleave]

/-- The bits of the bytes read back (R113, R111). -/
theorem State.deinterleave_getLsbD {n j b : Nat} (hj : j < n / 8) (hb : b < 8)
    (hfit : n ≤ s.numSamples * s.numLsb) :
    ((s.deinterleave n).getD j 0#8).getLsbD (7 - b) =
      (s.sample ((8 * j + b) / s.numLsb)).getLsbD (s.numLsb - 1 - (8 * j + b) % s.numLsb) := by
  unfold State.deinterleave
  have hq : 8 * j + b < n := by omega
  rw [bytesOf_getD _ (by simpa using hj), byteAt_getLsbD _ _ hb, unpack_getD _ _ _ hq, s.samples_getD]
  exact Nat.div_lt_of_lt_mul (by rw [Nat.mul_comm s.numLsb]; omega)

end

/-- Two bytes with the same eight bits, most significant first, are equal. -/
theorem byte_ext {x y : Byte} (h : ∀ b, b < 8 → x.getLsbD (7 - b) = y.getLsbD (7 - b)) : x = y := by
  apply BitVec.eq_of_getLsbD_eq
  intro i hi
  have := h (7 - i) (by omega)
  rwa [show 7 - (7 - i) = i by omega] at this

end Sys2Proof.Machine
end

