-- ==== Sys2Proof/Laws/Bus.lean ====
section
/-! SUPPORT. What a host event can do, said once, and the address map. -/

namespace Sys2Proof.Machine

section
variable {p : Params}

theorem target_isOk_iff (a : Word) : (∃ t, target p a = .ok t) ↔ MappedWord p a.toNat := by
  unfold target MappedWord sampleBase payloadBase
  split
  · rename_i h
    exact ⟨fun ⟨_, e⟩ => (nomatch e), fun m => absurd m.1 h⟩
  rename_i h0
  split
  · rename_i h
    refine ⟨fun _ => ⟨by omega, .inl h⟩, fun _ => ?_⟩
    split <;> exact ⟨_, rfl⟩
  · split
    · rename_i h
      exact ⟨fun _ => ⟨by omega, .inr (.inl h)⟩, fun _ => ⟨_, rfl⟩⟩
    · split
      · rename_i h
        exact ⟨fun _ => ⟨by omega, .inr (.inr h)⟩, fun _ => ⟨_, rfl⟩⟩
      · exact ⟨fun ⟨_, e⟩ => (nomatch e), fun m => by omega⟩

/-- Each register is at its offset (10_state.md R23). -/
theorem target_regAddr (r : Reg) : target p (regAddr r) = .ok (.reg r) := by cases r <;> rfl

/-- An address that is not mapped is refused. -/
theorem target_error {a : Word} (h : ¬MappedWord p a.toNat) : ∃ f, target p a = .error f := by
  cases e : target p a with
  | error f => exact ⟨f, rfl⟩
  | ok t => exact absurd ((target_isOk_iff a).1 ⟨t, e⟩) h

/-- The register page (10_state.md R23). -/
theorem target_reg {a : Word} {r : Reg} (h : target p a = .ok (.reg r)) :
    a.toNat % 4 = 0 ∧ a.toNat < 0x100 ∧ regAt a.toNat = some r := by
  unfold target at h
  split at h
  · cases h
  rename_i h0
  split at h
  · rename_i h1
    refine ⟨by omega, h1, ?_⟩
    cases e : regAt a.toNat with
    | none => rw [e] at h; cases h
    | some q => rw [e] at h; cases h; rfl
  · split at h
    · cases h
    · split at h <;> cases h

/-- A sample word is an entry of the RAM (20_memory.md R61). -/
theorem target_sample {a : Word} {i : Nat} (h : target p a = .ok (.sample i)) :
    i < p.nsMax ∧ a.toNat = 0x40000000 + 4 * i := by
  unfold target sampleBase payloadBase at h
  split at h
  · cases h
  split at h
  · split at h <;> cases h
  · split at h
    · simp only [Except.ok.injEq, Target.sample.injEq] at h
      omega
    · split at h <;> cases h

/-- A payload word is four bytes of the RAM, for PB_MAX is a multiple of 4 (R61). -/
theorem target_payload {a : Word} {j : Nat} (h : target p a = .ok (.payload j)) :
    j % 4 = 0 ∧ j < p.pbMax ∧ a.toNat = 0x80000000 + j := by
  unfold target sampleBase payloadBase at h
  split at h
  · cases h
  split at h
  · split at h <;> cases h
  · split at h
    · cases h
    · split at h
      · simp only [Except.ok.injEq, Target.payload.injEq] at h
        omega
      · cases h

end

section
variable {s : State} {a : Word} {t : Target}

/-- A read of a mapped word that returns its exact value. -/
theorem State.hostEvent_read (hr : s.rst = false) (ht : target s.params a = .ok t) (hx : s.readsAnyValue t = false) :
    s.hostEvent (.read a) = s.answer (some (.data (s.readTarget t))) := by
  simp [State.hostEvent, State.busRead, hr, ht, hx]

/-- A read of a mapped word that returns any value. -/
theorem State.hostEvent_read_any (hr : s.rst = false) (ht : target s.params a = .ok t)
    (hx : s.readsAnyValue t = true) :
    s.hostEvent (.read a) = s.draw.answer (some (.data s.drawn)) := by
  simp [State.hostEvent, State.busRead, hr, ht, hx]

/-- A read of an address that is not mapped. -/
theorem State.hostEvent_read_unmapped (hr : s.rst = false) (h : ¬MappedWord s.params a.toNat) :
    s.hostEvent (.read a) = s.answer (some .busError) := by
  obtain ⟨f, hf⟩ := target_error h
  simp [State.hostEvent, State.busRead, hr, hf]

/-- A whole-word write to a mapped word. -/
theorem State.hostEvent_write (hr : s.rst = false) (ht : target s.params a = .ok t) (v : Word) :
    s.hostEvent (.write a v 0xF#4) = (s.acceptWrite t v).answer (some .ok) := by
  simp [State.hostEvent, State.busWrite, hr, ht]

/-- A write to an address that is not mapped. -/
theorem State.hostEvent_write_unmapped (hr : s.rst = false) (h : ¬MappedWord s.params a.toNat) (v : Word)
    (k : BitVec 4) : s.hostEvent (.write a v k) = s.answer (some .busError) := by
  obtain ⟨f, hf⟩ := target_error h
  simp [State.hostEvent, State.busWrite, hr, hf]

/-- A write without all its byte strobes. -/
theorem State.hostEvent_write_strobes (hr : s.rst = false) {k : BitVec 4} (hk : k ≠ 0xF#4) (v : Word) :
    s.hostEvent (.write a v k) = s.answer (some .busError) := by
  cases h : target s.params a <;> simp [State.hostEvent, State.busWrite, hr, h, hk]

theorem State.acceptWrite_status (v : Word) : s.acceptWrite (.reg .status) v = s.writeStatus v := by
  simp [State.acceptWrite]

theorem State.acceptWrite_busy (hb : s.phase = .busy) (ht : t ≠ .reg .status) (v : Word) :
    s.acceptWrite t v = s.dropWrite := by
  simp [State.acceptWrite, State.busy, hb, ht]

theorem State.acceptWrite_idle (hi : s.phase = .idle) (ht : t ≠ .reg .status) (v : Word) :
    s.acceptWrite t v = s.writeTarget t v := by
  simp [State.acceptWrite, State.busy, hi, ht]

theorem State.readsAnyValue_idle (hi : s.phase = .idle) : s.readsAnyValue t = false := by
  simp [State.readsAnyValue, State.busy, hi]

end

/-- What an accepted write can do: clear W1C bits, be dropped, write the target. -/
theorem State.acceptWrite_cases (t : Target) (v : Word) (s : State) :
    (t = .reg .status ∧ s.acceptWrite t v = s.writeStatus v) ∨
      (t ≠ .reg .status ∧ s.phase = .busy ∧ s.acceptWrite t v = s.dropWrite) ∨
      (t ≠ .reg .status ∧ s.phase = .idle ∧ s.acceptWrite t v = s.writeTarget t v) := by
  unfold State.acceptWrite
  split
  · exact .inl ⟨‹_›, rfl⟩
  · cases h : s.phase <;> simp [State.busy, *]

/-- Everything a host event can do (20_memory.md R62 to R70, 70_reset_and_hazards.md R230, R231, R234, R235). -/
inductive HostEffect (s : State) : HostEvent → State → Prop
  /-- A read: the answer, and perhaps a draw. -/
  | read (a : Word) (r : Option BusResponse) (d : Nat) :
      HostEffect s (.read a) { s with response := r, drawCount := d }
  /-- A write with no effect: a bus error, or an access while rst is asserted. -/
  | ignored (a v : Word) (k : BitVec 4) (r : Option BusResponse) (d : Nat) :
      HostEffect s (.write a v k) { s with response := r, drawCount := d }
  | status (a v : Word) (hr : s.rst = false) : HostEffect s (.write a v 0xF#4) ((s.writeStatus v).answer (some .ok))
  | dropped (a v : Word) (hr : s.rst = false) (hb : s.phase = .busy) :
      HostEffect s (.write a v 0xF#4) (s.dropWrite.answer (some .ok))
  | written (a v : Word) (t : Target) (hr : s.rst = false) (hi : s.phase = .idle) (ht : target s.params a = .ok t)
      (hs : t ≠ .reg .status) : HostEffect s (.write a v 0xF#4) ((s.writeTarget t v).answer (some .ok))
  | reset (level : Bool) (h : (level || s.rst) = true) :
      HostEffect s (.setRst level) (({ s.afterReset with rst := level } : State).answer none)
  | noReset (h : s.rst = false) : HostEffect s (.setRst false) (s.answer none)

theorem State.hostEvent_effect (e : HostEvent) (s : State) : HostEffect s e (s.hostEvent e) := by
  cases e with
  | read a =>
    simp only [State.hostEvent]
    split
    · exact .read a _ _
    · cases h : s.busRead a with
      | error f => exact .read a _ s.drawCount
      | ok q =>
        obtain ⟨v, t⟩ := q
        unfold State.busRead at h
        cases ht : target s.params a with
        | error f => rw [ht] at h; cases h
        | ok t' =>
          rw [ht] at h
          dsimp only at h
          split at h
          · cases h; exact .read a _ _
          · cases h; exact .read a _ s.drawCount
  | write a v k =>
    simp only [State.hostEvent]
    split
    · exact .ignored a v k _ _
    · rename_i hr
      have hr : s.rst = false := by simpa using hr
      cases h : s.busWrite a v k with
      | error f => exact .ignored a v k _ s.drawCount
      | ok t =>
        unfold State.busWrite at h
        cases ht : target s.params a with
        | error f => rw [ht] at h; cases h
        | ok t' =>
          rw [ht] at h
          dsimp only at h
          split at h
          · rename_i hk
            cases h
            subst hk
            rcases s.acceptWrite_cases t' v with ⟨_, e⟩ | ⟨_, hb, e⟩ | ⟨hs, hi, e⟩
            · dsimp only; rw [e]; exact .status a v hr
            · dsimp only; rw [e]; exact .dropped a v hr hb
            · dsimp only; rw [e]; exact .written a v t' hr hi ht hs
          · cases h
  | setRst level =>
    simp only [State.hostEvent, State.driveRst]
    split
    · rename_i h
      exact .reset level h
    · rename_i h
      have hl : level = false ∧ s.rst = false := by simpa using h
      rw [hl.1]
      exact .noReset hl.2

/-- The script is not touched by a host event. -/
theorem State.hostEvent_script (e : HostEvent) (s : State) : (s.hostEvent e).script = s.script := by
  have h := s.hostEvent_effect e
  generalize s.hostEvent e = t at h ⊢
  cases h with
  | read | ignored | status | dropped | noReset => rfl
  | reset => rfl
  | written a v t _ _ _ _ =>
    cases t with
    | reg r => cases r <;> rfl
    | reserved | sample | payload => rfl

/-- The parameters are not touched by a host event (10_state.md R48). -/
theorem State.hostEvent_params (e : HostEvent) (s : State) : (s.hostEvent e).params = s.params := by
  have h := s.hostEvent_effect e
  generalize s.hostEvent e = t at h ⊢
  cases h with
  | read | ignored | status | dropped | noReset => rfl
  | reset => rfl
  | written a v t _ _ _ _ =>
    cases t with
    | reg r => cases r <;> rfl
    | reserved | sample | payload => rfl

end Sys2Proof.Machine
end

