-- ==== Sys2Proof/Laws/Commands.lean ====
section
/-! SUPPORT. Each command from a legal start, in the named updates; what any command can do; that no command depends on
HZD, DONE, ECODE, the answer on the bus or the draw counter. -/

namespace Sys2Proof.Machine

/-- The tag width, as the meanings compute it. -/
theorem tagwOf_eq (s : State) : tagwOf s.capSamples s.numLsb = s.tagWidth := rfl

section
variable {s : State}

theorem execCapq_legal (h : LegalStart .capq s) :
    exec .capq s = .next ((s.capOut s.capSamples s.numLsb).finish .noError) :=
  congrArg _ (afterPrecheck_legal h _)

/-- The registers CHKFIT leaves, whatever the outcome. -/
def chkfitRegs (s : State) : State :=
  (s.capOut s.capSamples s.numLsb).recordFit (maxpayCap 0 s.capSamples s.numLsb)
    (minkCap s.payloadLen false s.capSamples s.width)

/-- The registers CHKFITT leaves, whatever the outcome. -/
def chkfittRegs (s : State) : State :=
  (s.capOut s.capSamples s.numLsb).recordFit (maxpayCap s.tagWidth s.capSamples s.numLsb)
    (minkCap s.payloadLen true s.capSamples s.width)

/-- The registers ILV leaves, whatever the outcome. -/
def ilvRegs (s : State) : State :=
  (s.capOut s.capSamples s.numLsb).recordFit (maxpayAll 0 s.capSamples s.numSamples s.numLsb)
    (minkAll s.payloadLen false s.capSamples s.numSamples s.width)

/-- The registers ILVT leaves, whatever the outcome. -/
def ilvtRegs (s : State) : State :=
  (s.capOut s.capSamples s.numLsb).recordFit (maxpayAll s.tagWidth s.capSamples s.numSamples s.numLsb)
    (minkAll s.payloadLen true s.capSamples s.numSamples s.width)

theorem execChkfit_legal (h : LegalStart .chkfit s) :
    exec .chkfit s = .next (if fitCap s.payloadLen 0 s.capSamples s.numLsb then (chkfitRegs s).finish .noError
      else (chkfitRegs s).finish .capacityExceeded) :=
  congrArg _ (afterPrecheck_legal h _)

theorem execChkfitt_legal (h : LegalStart .chkfitt s) :
    exec .chkfitt s = .next (if fitCap s.payloadLen s.tagWidth s.capSamples s.numLsb then
      (chkfittRegs s).finish .noError else (chkfittRegs s).finish .capacityExceeded) :=
  congrArg _ (afterPrecheck_legal h _)

theorem execIlv_legal (h : LegalStart .ilv s) :
    exec .ilv s = .next (if fitCap s.payloadLen 0 s.capSamples s.numLsb ∧
        fitCarrier s.payloadLen 0 s.numSamples s.numLsb then
      ((ilvRegs s).interleave (bitsOf (s.payload s.payloadLen))).finish .noError
      else (ilvRegs s).finish .capacityExceeded) :=
  congrArg _ (afterPrecheck_legal h _)

theorem execIlvt_legal (h : LegalStart .ilvt s) :
    exec .ilvt s = .next (if fitCap s.payloadLen s.tagWidth s.capSamples s.numLsb ∧
        fitCarrier s.payloadLen s.tagWidth s.numSamples s.numLsb then
      ((ilvtRegs s).interleave
        (bitsOf (tagBytes s.payloadLen s.tagWidth s.tagLittle ++ s.payload s.payloadLen))).finish .noError
      else (ilvtRegs s).finish .capacityExceeded) :=
  congrArg _ (afterPrecheck_legal h _)

theorem execDilv_legal (h : LegalStart .dilv s) :
    exec .dilv s = .next (if s.numBits % 8 ≠ 0 then s.finish .badLength
      else if s.numSamples * s.numLsb < s.numBits then s.finish .insufficientCarrier
      else (s.storePayload (s.deinterleave s.numBits)).finish .noError) :=
  congrArg _ (afterPrecheck_legal h _)

theorem execDilvt_legal (h : LegalStart .dilvt s) :
    exec .dilvt s = .next (
      if s.numSamples * s.numLsb < 8 * s.tagWidth then
        (s.capOut s.capSamples s.numLsb).finish .insufficientCarrier
      else if capbytesOf s.capSamples s.numLsb < s.declaredLen + s.tagWidth then
        ((s.capOut s.capSamples s.numLsb).recordTag s.declaredLen).finish .corruptedSizeTag
      else if s.numSamples * s.numLsb < 8 * (s.tagWidth + s.declaredLen) then
        ((s.capOut s.capSamples s.numLsb).recordTag s.declaredLen).finish .insufficientCarrier
      else
        ((((s.capOut s.capSamples s.numLsb).recordTag s.declaredLen).storePayload
          ((s.deinterleave (8 * (s.tagWidth + s.declaredLen))).drop s.tagWidth)).setLen s.declaredLen).finish
            .noError) :=
  congrArg _ (afterPrecheck_legal h _)

end

/-- What a command can have done to the registers and the RAMs before its completion. -/
inductive CommandBody (i : Instr) (s : State) : State → Prop
  /-- No write at all: NOP, a failed common check, or an error before the first write. -/
  | nothing : CommandBody i s s
  | capacity (h : LegalStart i s) (hi : i = .capq ∨ i = .dilvt) : CommandBody i s (s.capOut s.capSamples s.numLsb)
  | report (h : LegalStart i s) (hi : i = .chkfit ∨ i = .chkfitt ∨ i = .ilv ∨ i = .ilvt) (pay least : Nat)
      (hpay : pay ≤ capbytesOf s.capSamples s.numLsb) (hleast : least ≤ s.width) :
      CommandBody i s ((s.capOut s.capSamples s.numLsb).recordFit pay least)
  | interleaved (h : LegalStart i s) (hi : i = .ilv ∨ i = .ilvt) (pay least : Nat) (b : List Bool)
      (hpay : pay ≤ capbytesOf s.capSamples s.numLsb) (hleast : least ≤ s.width)
      (hb : b.length ≤ s.numSamples * s.numLsb) :
      CommandBody i s (((s.capOut s.capSamples s.numLsb).recordFit pay least).interleave b)
  | recovered (h : LegalStart i s) (hi : i = .dilv) (vs : List Byte)
      (hvs : 8 * vs.length ≤ s.numSamples * s.numLsb) : CommandBody i s (s.storePayload vs)
  | tagRead (h : LegalStart i s) (hi : i = .dilvt) (v : Nat) :
      CommandBody i s ((s.capOut s.capSamples s.numLsb).recordTag v)
  | framed (h : LegalStart i s) (hi : i = .dilvt) (v : Nat) (vs : List Byte)
      (hvs : 8 * vs.length ≤ s.numSamples * s.numLsb) :
      CommandBody i s ((((s.capOut s.capSamples s.numLsb).recordTag v).storePayload vs).setLen v)

theorem maxpayCap_le (tw n k : Nat) : maxpayCap tw n k ≤ capbytesOf n k := Nat.sub_le _ _

theorem maxpayAll_le (tw n N k : Nat) : maxpayAll tw n N k ≤ capbytesOf n k :=
  Nat.le_trans (Nat.sub_le _ _) (Nat.div_le_div_right (Nat.mul_le_mul_right k (Nat.min_le_left n N)))

/-- Every command, in every state, does one of these things and then ends (43_control.md R193). A body that changes a RAM
or LEN ends with NONE (60_exceptions.md R211). -/
theorem exec_cases (i : Instr) (s : State) :
    ∃ e u, exec i s = .next (u.finish e) ∧ CommandBody i s u ∧
      (e ≠ .noError → u.sram = s.sram ∧ u.pram = s.pram ∧ u.len = s.len) := by
  have legal : ∀ body, (afterPrecheck i s body = body s → LegalStart i s →
      ∃ e u, body s = u.finish e ∧ CommandBody i s u ∧
        (e ≠ .noError → u.sram = s.sram ∧ u.pram = s.pram ∧ u.len = s.len)) →
      ∃ e u, Host.Outcome.next (ρ := Refusal) (φ := Fault) (afterPrecheck i s body) = .next (u.finish e) ∧
        CommandBody i s u ∧ (e ≠ .noError → u.sram = s.sram ∧ u.pram = s.pram ∧ u.len = s.len) := by
    intro body hb
    rcases afterPrecheck_cases i s body with ⟨e, _, he⟩ | ⟨hl, he⟩
    · exact ⟨e, s, congrArg _ he, .nothing, fun _ => ⟨rfl, rfl, rfl⟩⟩
    · obtain ⟨e, u, h1, h2⟩ := hb he hl
      exact ⟨e, u, congrArg _ (he.trans h1), h2⟩
  have hmin : ∀ (L : Nat) (t : Bool) (n W : Nat), minkCap L t n W ≤ W := fun _ _ _ _ => leastK_le _ _
  have hall : ∀ (L : Nat) (t : Bool) (n N W : Nat), minkAll L t n N W ≤ W := fun _ _ _ _ _ => leastK_le _ _
  cases i with
  | nop => exact ⟨.noError, s, rfl, .nothing, fun h => absurd rfl h⟩
  | capq => exact legal _ fun _ hl => ⟨.noError, _, rfl, .capacity hl (.inl rfl), fun _ => ⟨rfl, rfl, rfl⟩⟩
  | chkfit =>
    refine legal _ fun _ hl => ?_
    have hb := CommandBody.report hl (.inl rfl) _ _ (maxpayCap_le 0 _ _) (hmin s.payloadLen false s.capSamples _)
    dsimp only
    split
    · exact ⟨.noError, _, rfl, hb, fun _ => ⟨rfl, rfl, rfl⟩⟩
    · exact ⟨.capacityExceeded, _, rfl, hb, fun _ => ⟨rfl, rfl, rfl⟩⟩
  | chkfitt =>
    refine legal _ fun _ hl => ?_
    have hb := CommandBody.report hl (.inr (.inl rfl)) _ _ (maxpayCap_le s.tagWidth _ _)
      (hmin s.payloadLen true s.capSamples _)
    dsimp only
    split
    · exact ⟨.noError, _, rfl, hb, fun _ => ⟨rfl, rfl, rfl⟩⟩
    · exact ⟨.capacityExceeded, _, rfl, hb, fun _ => ⟨rfl, rfl, rfl⟩⟩
  | ilv =>
    refine legal _ fun _ hl => ?_
    dsimp only
    split
    · rename_i hf
      refine ⟨.noError, _, rfl, .interleaved hl (.inl rfl) _ _ _ (maxpayAll_le 0 _ _ _)
        (hall s.payloadLen false s.capSamples _ _) ?_, fun h => absurd rfl h⟩
      simpa using hf.2
    · exact ⟨.capacityExceeded, _, rfl, .report hl (.inr (.inr (.inl rfl))) _ _ (maxpayAll_le 0 _ _ _)
        (hall s.payloadLen false s.capSamples _ _), fun _ => ⟨rfl, rfl, rfl⟩⟩
  | ilvt =>
    refine legal _ fun _ hl => ?_
    dsimp only
    split
    · rename_i hf
      refine ⟨.noError, _, rfl, .interleaved hl (.inr rfl) _ _ _ (maxpayAll_le s.tagWidth _ _ _)
        (hall s.payloadLen true s.capSamples _ _) ?_, fun h => absurd rfl h⟩
      have := hf.2
      unfold fitCarrier at this
      simp only [bitsOf_length, List.length_append, tagBytes_length, State.payload_length]
      omega
    · exact ⟨.capacityExceeded, _, rfl, .report hl (.inr (.inr (.inr rfl))) _ _ (maxpayAll_le s.tagWidth _ _ _)
        (hall s.payloadLen true s.capSamples _ _), fun _ => ⟨rfl, rfl, rfl⟩⟩
  | dilv =>
    refine legal _ fun _ hl => ?_
    split
    · exact ⟨.badLength, _, rfl, .nothing, fun _ => ⟨rfl, rfl, rfl⟩⟩
    · split
      · exact ⟨.insufficientCarrier, _, rfl, .nothing, fun _ => ⟨rfl, rfl, rfl⟩⟩
      · refine ⟨.noError, _, rfl, .recovered hl rfl _ ?_, fun h => absurd rfl h⟩
        rw [State.deinterleave_length]
        omega
  | dilvt =>
    refine legal _ fun _ hl => ?_
    dsimp only
    split
    · exact ⟨.insufficientCarrier, _, rfl, .capacity hl (.inr rfl), fun _ => ⟨rfl, rfl, rfl⟩⟩
    · split
      · exact ⟨.corruptedSizeTag, _, rfl, .tagRead hl rfl _, fun _ => ⟨rfl, rfl, rfl⟩⟩
      · split
        · exact ⟨.insufficientCarrier, _, rfl, .tagRead hl rfl _, fun _ => ⟨rfl, rfl, rfl⟩⟩
        · refine ⟨.noError, _, rfl, .framed hl rfl _ _ ?_, fun h => absurd rfl h⟩
          rw [List.length_drop, State.deinterleave_length]
          omega

end Sys2Proof.Machine
end

