-- ==== Sys2Proof/Laws/PerInstr.lean ====
section
/-! SUPPORT. Statements about the instruction as syntax, one lemma per constructor. -/

namespace Sys2Proof.Laws.RoundTrip

/-- A well-formed instruction is what its own word decodes to (30_encoding.md R91, R94). -/
def Statement (i : Instr) : Prop := i.wf = true → decode (encode i) = .ok i

theorem nop : Statement .nop := fun _ => rfl

theorem capq : Statement .capq := fun _ => rfl

theorem chkfit : Statement .chkfit := fun _ => rfl

theorem chkfitt : Statement .chkfitt := fun _ => rfl

theorem ilv : Statement .ilv := fun _ => rfl

theorem ilvt : Statement .ilvt := fun _ => rfl

theorem dilv : Statement .dilv := fun _ => rfl

theorem dilvt : Statement .dilvt := fun _ => rfl

end Sys2Proof.Laws.RoundTrip
end

