-- ==== Sys2Proof/Laws/Step.lean ====
section
/-! SUPPORT. Everything one step can do. -/

namespace Sys2Proof.Machine

section
variable {s : State}

theorem step_busy_nil (hs : s.script = []) (hb : s.phase = .busy) : step s = engineStep s := by
  unfold step; rw [hs, hb]

theorem step_busy_engine {r : List Turn} (hs : s.script = .engine :: r) (hb : s.phase = .busy) :
    step s = engineStep { s with script := r } := by
  unfold step; rw [hs, hb]

theorem step_idle_nil (hs : s.script = []) (hi : s.phase = .idle) : step s = .fault .noStepEnabled := by
  unfold step; rw [hs, hi]

theorem step_idle_engine {r : List Turn} (hs : s.script = .engine :: r) (hi : s.phase = .idle) :
    step s = .next { s with script := r } := by
  unfold step; rw [hs, hi]

theorem step_host {r : List Turn} {e : HostEvent} (hs : s.script = .host e :: r) :
    step s = .next (({ s with script := r } : State).hostEvent e) := by
  unfold step; rw [hs]

theorem engineStep_legal {i : Instr} (hd : decode s.pcmd = .ok i) : engineStep s = exec i s := by
  unfold engineStep; rw [hd]

theorem engineStep_illegal {f : DecodeError} (hd : decode s.pcmd = .error f) :
    engineStep s = .next (s.finish .illegalCommand) := by
  unfold engineStep; rw [hd]; rfl

end

theorem run_succ_of {M : Host.Core} {s t : M.State} (n : Nat) (h : M.step s = .next t) : M.run (n + 1) s = M.run n t := by
  rw [Host.Core.run, h]

/-- A run of one more step. -/
theorem run_succ {s t : State} (n : Nat) (h : step s = .next t) : Sys2Proof.core.run (n + 1) s = Sys2Proof.core.run n t :=
  run_succ_of (M := Sys2Proof.core) n h

/-- What an engine step can do: end a legal command, or end an illegal word with ILLEGAL_COMMAND. -/
theorem engineStep_cases (s : State) :
    (∃ i, decode s.pcmd = .ok i ∧ engineStep s = exec i s) ∨
      (∃ f, decode s.pcmd = .error f ∧ engineStep s = .next (s.finish .illegalCommand)) := by
  unfold engineStep
  cases h : decode s.pcmd with
  | ok i => exact .inl ⟨i, rfl, rfl⟩
  | error f => exact .inr ⟨f, rfl, rfl⟩

/-- Everything a step that answers a next state can have done (20_memory.md R74, 43_control.md R191). -/
inductive StepEffect (s : State) : State → Prop
  | command (r : List Turn) (i : Instr) (t : State) (hb : s.phase = .busy) (hd : decode s.pcmd = .ok i)
      (h : exec i { s with script := r } = .next t) : StepEffect s t
  | illegal (r : List Turn) (f : DecodeError) (hb : s.phase = .busy) (hd : decode s.pcmd = .error f) :
      StepEffect s (({ s with script := r } : State).finish .illegalCommand)
  | pass (r : List Turn) (hi : s.phase = .idle) : StepEffect s { s with script := r }
  | host (r : List Turn) (e : HostEvent) (hs : s.script = .host e :: r) :
      StepEffect s (({ s with script := r } : State).hostEvent e)

theorem step_effect {s t : State} (h : step s = .next t) : StepEffect s t := by
  have engine : ∀ r, s.phase = .busy → engineStep { s with script := r } = .next t → StepEffect s t := by
    intro r hb he
    rcases engineStep_cases { s with script := r } with ⟨i, hd, e⟩ | ⟨f, hd, e⟩
    · exact .command r i t hb hd (e ▸ he)
    · rw [e] at he
      cases he
      exact .illegal r f hb hd
  unfold step at h
  split at h
  · split at h
    · rename_i hs _ hb
      exact engine [] hb (by rw [← h, ← hs])
    · cases h
  · rename_i r hs
    split at h
    · rename_i hb
      exact engine r hb h
    · rename_i hi
      cases h
      exact .pass r hi
  · rename_i e r hs
    cases h
    exact .host r e hs

end Sys2Proof.Machine
end

