-- ==== Sys2Proof/Tests/Slice0.lean ====
section
/-! SUPPORT. Tests of one step each, their expected values from spec/95_test_vectors.md and the worked examples of the command
rules; the well-formedness smoke; the decoding of words written from 30_encoding.md R90, R91; a witness for the hypotheses of
every obligation that has some. -/

namespace Sys2Proof.Tests

open Sys2Proof.Machine

/-! ### Well-formedness smoke -/

theorem test_wf_instructions : [Instr.nop, .capq, .chkfit, .chkfitt, .ilv, .ilvt, .dilv, .dilvt].all Instr.wf = true := by
  decide
theorem test_illformed_reserved_bits : commandWordWf 0x00000104#32 = false := by decide
theorem test_illformed_opcode : commandWordWf 0x00000008#32 = false := by decide
theorem test_illformed_no_samples : ¬Params.wf ⟨0, 4⟩ := by decide
theorem test_illformed_too_many_samples : ¬Params.wf ⟨2 ^ 28, 2 ^ 31⟩ := by decide
theorem test_illformed_pb_multiple : ¬Params.wf ⟨1, 6⟩ := by decide
theorem test_illformed_pb_small : ¬Params.wf ⟨4, 4⟩ := by decide
theorem test_illformed_pb_large : ¬Params.wf ⟨4, 2 ^ 31 + 4⟩ := by decide
theorem test_wellformed_params : Params.wf ⟨2 ^ 28 - 1, 2 ^ 31⟩ := by decide

/-! ### Decoding (30_encoding.md R91; opcode_table.json "encoding") -/

theorem test_decode_nop : decode 0b00000000000000000000000000000000#32 = .ok .nop := rfl
theorem test_decode_capq : decode 0b00000000000000000000000000000001#32 = .ok .capq := rfl
theorem test_decode_chkfit : decode 0b00000000000000000000000000000010#32 = .ok .chkfit := rfl
theorem test_decode_chkfitt : decode 0b00000000000000000000000000000011#32 = .ok .chkfitt := rfl
theorem test_decode_ilv : decode 0b00000000000000000000000000000100#32 = .ok .ilv := rfl
theorem test_decode_ilvt : decode 0b00000000000000000000000000000101#32 = .ok .ilvt := rfl
theorem test_decode_dilv : decode 0b00000000000000000000000000000110#32 = .ok .dilv := rfl
theorem test_decode_dilvt : decode 0b00000000000000000000000000000111#32 = .ok .dilvt := rfl
theorem test_decode_reserved_opcode : decode 0x000000FF#32 = .error .reservedOpcode := rfl
theorem test_decode_reserved_bits : decode 0x00000100#32 = .error .reservedBits := rfl
theorem test_table_word : decodeTableWord 32 5 = some .ilvt ∧ decodeTableWord 32 8 = none := by decide

/-! ### Small states -/

/-- A machine of 64 samples and 128 payload bytes, right after reset. -/
def small : State := { State.reset with params := ⟨64, 128⟩ }

/-- The state an outcome carries on with; `small` where there is none. -/
def after (o : Host.Outcome State Fault Refusal) : State :=
  match o with
  | .next t => t
  | _ => small

/-- CFG as DEPTH, K, TAGLE, then CAPN and LEN. -/
def capState (d : BitVec 3) (k : BitVec 5) (c : BitVec 28) (l : Word) : State :=
  { small with cfg := { depth := d, k := k, tagle := false, ie := false }, capn := c, len := l }

/-- A codec state: C = N, the samples and the payload written. -/
def codecState (d : BitVec 3) (k : BitVec 5) (le : Bool) (S : List Sample) (P : List Byte) : State :=
  { small with
    cfg := { depth := d, k := k, tagle := le, ie := false }
    capn := BitVec.ofNat 28 S.length
    nsamp := BitVec.ofNat 28 S.length
    len := BitVec.ofNat 32 P.length
    sram := memWriteList [] 0 S
    pram := memWriteList [] 0 P }

/-- The result registers MAXBITS, TAGW, CAPBYTES, REQ, MAXPAY, MINK as numbers. -/
def report (t : State) : List Nat :=
  [t.maxbits.toNat, t.tagw.toNat, t.capbytes.toNat, t.req.toNat, t.maxpay.toNat, t.mink.toNat]

/-! ### Commands -/

/-- 95 section 3.4: NOP after reset, STATUS 0x00000002. -/
theorem test_nop_after_reset : (after (step (State.reset.withFetchWord 32 0))).statusWord = 0x00000002#32 := by decide

/-- 95 section 3.4: NOP with CFG 3/0 makes no checks. -/
theorem test_nop_no_checks : (after (exec .nop (capState 3 0 0 0))).statusWord = 0x00000002#32 := by decide

/-- 95 section 3.1: CFG 1/2, CAPN 30000. -/
theorem test_capq_scenario1 : (report (after (exec .capq (capState 1 2 30000 0)))).take 3 = [60000, 2, 7500] := by decide

/-- 95 section 3.1: the largest values. -/
theorem test_capq_largest :
    (report (after (exec .capq (capState 2 16 268435455 0)))).take 3 = [4294967280, 4, 536870910] := by decide

/-- 95 section 3.1: CHKFIT 2/2, 44100, 11026. -/
theorem test_chkfit_exceeded :
    (after (exec .chkfit (capState 2 2 44100 11026))).statusWord = 0x00000106#32 ∧
      report (after (exec .chkfit (capState 2 2 44100 11026))) = [88200, 3, 11025, 11026, 11025, 3] := by decide

/-- 95 section 3.1: CHKFIT 1/8, 10, 11: W bounds MINK. -/
theorem test_chkfit_none_fits :
    report (after (exec .chkfit (capState 1 8 10 11))) = [80, 1, 10, 11, 10, 0] := by decide

/-- 95 section 2, scenario 3: CHKFITT 1/2, 30000, 7501. -/
theorem test_chkfitt_scenario3 :
    (after (exec .chkfitt (capState 1 2 30000 7501))).statusWord = 0x00000106#32 ∧
      report (after (exec .chkfitt (capState 1 2 30000 7501))) = [60000, 2, 7500, 7501, 7498, 3] := by decide

/-- 95 section 3.1: CHKFITT 1/1, 1, 0: the tag alone does not fit. -/
theorem test_chkfitt_tag_too_big :
    report (after (exec .chkfitt (capState 1 1 1 0))) = [1, 1, 0, 0, 0, 8] := by decide

/-- 40_bit_codec.md R116, the worked example, with one entry beyond the payload (95 P3). -/
theorem test_ilv_example :
    (after (exec .ilv (codecState 1 3 false [0xA5, 0x3C, 0xFF, 0x00, 0x81, 0x7E, 0x1FF] [0xB4, 0x2D]))).samples 7 =
      [0xA5, 0x3D, 0xF8, 0x02, 0x86, 0x7C, 0x1FF] := by decide

/-- 95 section 3.2: k = 9. -/
theorem test_ilv_k9 :
    (after (exec .ilv (codecState 2 9 false [0xFFFF, 0x0000] [0x81, 0x42]))).samples 2 = [0xFF02, 0x0108] ∧
      report (after (exec .ilv (codecState 2 9 false [0xFFFF, 0x0000] [0x81, 0x42]))) = [18, 1, 2, 2, 2, 8] := by decide

/-- 95 T1. -/
theorem test_ilvt_t1 :
    (after (exec .ilvt (codecState 1 4 false (List.replicate 16 0x55) [0xCA, 0xFE]))).samples 7 =
        [0x50, 0x52, 0x5C, 0x5A, 0x5F, 0x5E, 0x55] ∧
      report (after (exec .ilvt (codecState 1 4 false (List.replicate 16 0x55) [0xCA, 0xFE]))) =
        [64, 1, 8, 2, 7, 2] := by decide

/-- T4's byte order on a carrier that fits `small`: C × k = 64 × 4 = 256 bits, so tw = 2 and the little-endian tag of L = 3 is
[0x03, 0x00] (42_framed.md R170). -/
theorem test_ilvt_little_endian :
    (after (exec .ilvt (codecState 1 4 true (List.replicate 64 0) [0x11, 0x22, 0x33]))).samples 12 =
      [0, 3, 0, 0, 1, 1, 2, 2, 3, 3, 0, 0] := by decide

/-- 95 section 3.2, DILV row 1. -/
theorem test_dilv_example :
    (after (exec .dilv { codecState 1 3 false [0xA5, 0x3D, 0xF8, 0x02, 0x86, 0x7C] [0xEE, 0xEE, 0xEE, 0xEE] with
      nbits := 16 })).payload 4 = [0xB4, 0x2D, 0xEE, 0xEE] := by decide

/-- 95 section 3.2: BAD_LENGTH is found before the carrier bound. -/
theorem test_dilv_bad_length :
    (after (exec .dilv { codecState 1 3 false [0xA5, 0x3D, 0xF8, 0x02, 0x86, 0x7C] [] with nbits := 20 })).statusWord =
      0x00000606#32 := by decide

/-- The samples ILVT's worked example leaves, with the tag's low nibble x (95 T1, T7, T8). -/
def t1Samples (hi lo : Sample) : List Sample := [hi, lo, 0x5C, 0x5A, 0x5F, 0x5E] ++ List.replicate 10 0x55

/-- 95 T7: tag 0x07, the exact boundary. -/
theorem test_dilvt_t7 :
    (after (exec .dilvt (codecState 1 4 false (t1Samples 0x50 0x57) []))).payload 7 =
        [0xCA, 0xFE, 0x55, 0x55, 0x55, 0x55, 0x55] ∧
      (after (exec .dilvt (codecState 1 4 false (t1Samples 0x50 0x57) []))).len = 7 := by decide

/-- 95 T6: tag 0xF2 claims more than capacity. -/
theorem test_dilvt_t6 :
    (after (exec .dilvt (codecState 1 4 false (t1Samples 0x5F 0x52) []))).statusWord = 0x00000306#32 ∧
      (after (exec .dilvt (codecState 1 4 false (t1Samples 0x5F 0x52) []))).tagval = 242 := by decide

/-! ### Checks, bus and hazards (95 section 3.4) -/

theorem test_illegal_word : (after (step (small.withFetchWord 32 0x104))).statusWord = 0x00000806#32 := by decide
theorem test_depth_before_k : (after (exec .capq (capState 3 0 0 0))).statusWord = 0x00000206#32 := by decide
theorem test_k_above_w : (after (exec .capq (capState 2 17 0 0))).statusWord = 0x00000506#32 := by decide
theorem test_range : (after (exec .ilv { small with nsamp := 65 })).statusWord = 0x00000706#32 := by decide
theorem test_k_before_range :
    (after (exec .ilv { capState 1 0 0 0 with nsamp := 65 })).statusWord = 0x00000506#32 := by decide

theorem test_cfg_read_back :
    cfgToWord (small.hostEvent (.write 0x00000004#32 0xFFFFFFFF#32 0xF#4)).cfg = 0x00031F07#32 := by decide
theorem test_payload_lanes :
    (small.hostEvent (.write 0x80000000#32 0x44332211#32 0xF#4)).payload 4 = [0x11, 0x22, 0x33, 0x44] := by decide
theorem test_sample_low_half :
    (small.hostEvent (.write 0x40000000#32 0xDEADBEEF#32 0xF#4)).samples 1 = [0xBEEF] := by decide
theorem test_first_unmapped_sample :
    (small.hostEvent (.read 0x40000100#32)).response = some .busError := by decide
theorem test_first_unmapped_payload :
    (small.hostEvent (.read 0x80000080#32)).response = some .busError := by decide
theorem test_misaligned : (small.hostEvent (.read 0x00000002#32)).response = some .busError := by decide

/-- The Hazard of 95 section 3.4, steps 1 to 5: a CAPQ issued, CFG and CMD writes dropped. -/
theorem test_hazard :
    (hostEvents [.write 0x04#32 0x00000201#32 0xF#4, .write 0x18#32 1#32 0xF#4, .write 0x04#32 0x00000401#32 0xF#4,
      .write 0x18#32 0#32 0xF#4, .write 0x1C#32 2#32 0xF#4, .read 0x1C#32] small).response = some (.data 0x00000009#32) := by
  decide

theorem test_host_notation :
    hostCmd .ilvt = .host (.write 0x00000018#32 0x00000005#32 0xF#4) ∧
      hostCfg { depth := 1, k := 4, tagle := false, ie := false } = .host (.write 0x00000004#32 0x00000401#32 0xF#4) := by
  decide

/-! ### Witnesses: for every obligation with hypotheses, states and operands that meet all of them together

Where an obligation has several clauses, one conjunct for each, at a boundary value of its range. -/

/-- `small` with word w issued and these turns to come. -/
def busyWith (w : Word) (turns : List Turn) : State := { small with phase := .busy, pcmd := w, script := turns }

/-- A CFG write, a read of LEN and a STATUS write, as a host may make them while BUSY. -/
def accesses : List HostEvent :=
  [.write 0x00000004#32 0x00000401#32 0xF#4, .read 0x00000010#32, .write 0x0000001C#32 2#32 0xF#4]

/-- R116's worked example, before and after its ILV, and the state its DILV starts from. -/
def ilvState : State := codecState 1 3 false [0xA5, 0x3C, 0xFF, 0x00, 0x81, 0x7E] [0xB4, 0x2D]
def ilvEnd : State := after (exec .ilv ilvState)
def dilvState : State := { ilvEnd with nbits := 16 }

/-- T7's boundary as an embed: 8 × (7 + 1) = 16 × 4, and the state its DILVT starts from. -/
def ilvtState : State := codecState 1 4 true (List.replicate 16 0x55) [1, 2, 3, 4, 5, 6, 7]
def ilvtEnd : State := after (exec .ilvt ilvtState)
def dilvtState (n : BitVec 28) (hi lo : Sample) : State :=
  { codecState 1 4 false (t1Samples hi lo) [] with nsamp := n }

theorem legalStart_of {i : Instr} {s : State} (h : precheck i s = none) : LegalStart i s := (precheck_none_iff i s).1 h

theorem tagIs_of {s : State} {T : List Byte} (hl : T.length = s.tagWidth)
    (hb : ∀ i, i < s.tagWidth → ∀ b, b < 8 → (T.getD i 0#8).getLsbD (7 - b) =
      (s.sample ((8 * i + b) / s.cfg.k.toNat)).getLsbD (s.cfg.k.toNat - 1 - (8 * i + b) % s.cfg.k.toNat)) :
    s.TagIs T := ⟨hl, fun i b hi hb' => hb i hi b hb'⟩

theorem busyWith_inv (w : Word) (turns : List Turn) : (busyWith w turns).Inv where
  paramsWf := (by decide : small.params.wf)
  sramWf := List.Pairwise.nil
  sramBelow := fun _ h => nomatch h
  pramWf := List.Pairwise.nil
  pramBelow := fun _ h => nomatch h
  busyClear := fun _ => ⟨rfl, rfl⟩
  resetIdle := fun h => nomatch h
  maxbitsLe := (by decide : small.maxbits.toNat ≤ (2 ^ 28 - 1) * 16)
  tagwOfMaxbits := (by decide : small.tagw.toNat = (bitLength small.maxbits.toNat + 7) / 8)
  capbytesOfMaxbits := (by decide : small.capbytes.toNat = small.maxbits.toNat / 8)
  maxpayLe := (by decide : small.maxpay.toNat ≤ (2 ^ 28 - 1) * 16 / 8)
  minkLe := (by decide : small.mink.toNat ≤ 16)

theorem witness_DecodeOfEncode : Instr.dilvt.wf = true := by decide
theorem witness_DecodingRule :
    2 ^ 8 ≤ (0x00000100#32).toNat ∧ 8 ≤ (8#32 : Word).toNat ∧ (0x000000FF#32).toNat < 2 ^ 8 := by decide
theorem witness_StepRunsCommand :
    (busyWith 4 []).phase = .busy ∧ decode (busyWith 4 []).pcmd = .ok .ilv ∧ (busyWith 4 []).script = [] ∧
    (busyWith 7 [.engine]).phase = .busy ∧ decode (busyWith 7 [.engine]).pcmd = .ok .dilvt ∧
    (busyWith 7 [.engine]).script = .engine :: [] := by decide
theorem witness_IllegalWordEnds :
    (busyWith 8 []).phase = .busy ∧ 8 ≤ (busyWith 8 []).pcmd.toNat ∧ (busyWith 8 []).script = [] ∧
    8 ≤ (busyWith 0xFFFFFFFF [.engine]).pcmd.toNat ∧ (busyWith 0xFFFFFFFF [.engine]).script = .engine :: [] := by decide
theorem witness_StopsOnlyWhenNothingCanMove : State.reset.phase = .idle ∧ State.reset.script = [] := ⟨rfl, rfl⟩
theorem witness_EveryCommandCompletes :
    (busyWith 1 (accesses.map .host)).phase = .busy ∧
    ∀ e, Turn.host e ∈ (busyWith 1 (accesses.map .host)).script → e.isAccess = true := by
  refine ⟨rfl, fun e he => ?_⟩
  simp only [busyWith, accesses, List.map_cons, List.map_nil, List.mem_cons, Turn.host.injEq, List.not_mem_nil,
    or_false] at he
  rcases he with rfl | rfl | rfl <;> rfl
theorem witness_HostTurns :
    (busyWith 1 [.host (.setRst true), .engine]).script = .host (.setRst true) :: [.engine] ∧
    ({ small with script := [.engine] } : State).phase = .idle ∧
    ({ small with script := [.engine] } : State).script = .engine :: [] := by decide

theorem witness_IssueByCmdWrite :
    small.rst = false ∧ small.phase = .idle ∧ (busyWith 1 []).rst = false ∧ (busyWith 1 []).phase = .busy := by decide
theorem witness_StatusWriteClears : (busyWith 1 []).rst = false := by decide
theorem witness_StatusReadFields : ilvEnd.rst = false := by decide
theorem witness_BusyWritesDropped :
    (busyWith 1 []).rst = false ∧ (busyWith 1 []).phase = .busy ∧
    (MappedWord small.params (0x400000FC#32).toNat ∧ 0x400000FC#32 ≠ 0x0000001C#32) ∧
    ¬MappedWord small.params (0x40000100#32).toNat := by decide
theorem witness_BusErrorsChangeNothing :
    small.rst = false ∧ ¬MappedWord small.params (0x00000100#32).toNat ∧
    ¬MappedWord small.params (0x80000080#32).toNat ∧ ¬MappedWord small.params (0x00000001#32).toNat ∧
    0x7#4 ≠ 0xF#4 := by decide
theorem witness_ReadsHaveNoSideEffect : small.rst = false ∧ MappedWord small.params (0x8000007C#32).toNat := by decide
theorem witness_RegisterReads : ilvEnd.rst = false ∧ ilvEnd.phase = .idle := by decide
theorem witness_CfgWriteReadBack : ilvEnd.rst = false ∧ ilvEnd.phase = .idle := by decide
theorem witness_CountWrites : ilvEnd.rst = false ∧ ilvEnd.phase = .idle := by decide
theorem witness_ReadOnlyWritesIgnored :
    small.rst = false ∧ small.phase = .idle ∧ (busyWith 1 []).rst = false ∧ (busyWith 1 []).phase = .busy ∧
    ((0x00000044#32).toNat % 4 = 0 ∧ 0x44 ≤ (0x00000044#32).toNat) ∧
    ((0x000000FC#32).toNat % 4 = 0 ∧ 0x44 ≤ (0x000000FC#32).toNat ∧ (0x000000FC#32).toNat ≤ 0xFC) ∧
    ((0x00000020#32).toNat % 4 = 0 ∧ 0x20 ≤ (0x00000020#32).toNat ∧ (0x00000020#32).toNat ≤ 0xFC) := by decide
theorem witness_BusyReads_state :
    (busyWith 1 []).rst = false ∧ (busyWith 1 []).phase = .busy ∧ (busyWith 1 []).Inv :=
  ⟨rfl, rfl, busyWith_inv 1 []⟩
theorem witness_BusyReads_addresses :
    [0x00000000#32, 0x00000004#32, 0x00000008#32, 0x0000000C#32, 0x00000010#32, 0x00000014#32, 0x00000018#32,
      0x0000001C#32, 0x00000020#32, 0x00000038#32, 0x0000003C#32, 0x00000040#32, 0x00000044#32, 0x000000FC#32,
      0x40000000#32, 0x400000FC#32, 0x80000000#32, 0x8000007C#32].all
      (fun a => decide (MappedWord (busyWith 1 []).params a.toNat)) = true := by decide
theorem witness_BusyReadsAreFree :
    (busyWith 1 []).rst = false ∧ (busyWith 1 []).phase = .busy ∧
    [0x0000000C#32, 0x00000010#32, 0x00000014#32, 0x0000001C#32, 0x00000020#32, 0x00000038#32, 0x0000003C#32, 0x000000FC#32,
      0x40000000#32, 0x8000007C#32].all (fun a => decide (MappedWord (busyWith 1 []).params a.toNat)) = true := by decide
theorem witness_SampleWindow :
    small.rst = false ∧ small.params.wf ∧ small.phase = .idle ∧ (busyWith 1 []).phase = .busy ∧
    (0 < small.params.nsMax ∧ (0x40000000#32).toNat = 0x40000000 + 4 * 0) ∧
    (63 < small.params.nsMax ∧ (0x400000FC#32).toNat = 0x40000000 + 4 * 63) := by decide
theorem witness_PayloadWindow :
    small.rst = false ∧ small.params.wf ∧ small.phase = .idle ∧ (busyWith 1 []).phase = .busy ∧
    (4 * 0 < small.params.pbMax ∧ (0x80000000#32).toNat = 0x80000000 + 4 * 0) ∧
    (4 * 31 < small.params.pbMax ∧ (0x8000007C#32).toNat = 0x80000000 + 4 * 31) := by decide

theorem witness_ResetInput :
    ({ small with rst := true } : State).rst = true ∧ (HostEvent.read 0x00000000#32).isAccess = true := by decide
theorem witness_IrqLevel :
    small.rst = false ∧ small.phase = .idle ∧ (0x00000002#32 : Word).getLsbD 1 = true ∧
    (busyWith 1 []).rst = false ∧ (busyWith 1 []).phase = .busy ∧ 0x00000018#32 ≠ 0x0000001C#32 ∧
    exec .ilv ilvState = .next ilvEnd := ⟨rfl, rfl, rfl, rfl, rfl, by decide, rfl⟩
theorem witness_BadDepthEnds :
    Instr.capq ≠ .nop ∧ (capState 3 1 0 0).cfg.depth.toNat ≠ 1 ∧ (capState 3 1 0 0).cfg.depth.toNat ≠ 2 := by decide
theorem witness_BadKEnds :
    Instr.dilvt ≠ .nop ∧ (capState 2 17 0 0).cfg.depth.toNat = 2 ∧
    8 * (capState 2 17 0 0).cfg.depth.toNat < (capState 2 17 0 0).cfg.k.toNat ∧
    (capState 1 0 0 0).cfg.depth.toNat = 1 ∧ (capState 1 0 0 0).cfg.k.toNat = 0 := by decide
theorem witness_RangeEnds :
    let s : State := { capState 1 8 0 0 with nsamp := 65 }
    Instr.dilv ∈ [Instr.ilv, .ilvt, .dilv, .dilvt] ∧ s.cfg.depth.toNat = 1 ∧ 1 ≤ s.cfg.k.toNat ∧
    s.cfg.k.toNat ≤ 8 * s.cfg.depth.toNat ∧ s.params.nsMax < s.nsamp.toNat := by decide
theorem witness_FailureLeavesRams :
    exec .dilvt (dilvtState 16 0x5F 0x52) = .next (after (exec .dilvt (dilvtState 16 0x5F 0x52))) ∧
    (after (exec .dilvt (dilvtState 16 0x5F 0x52))).ecode ≠ .noError := ⟨rfl, by decide⟩
theorem witness_WritersOfEachState :
    let s := dilvtState 16 0x50 0x57
    let t := after (exec .dilvt s)
    exec .dilvt s = .next t ∧ exec .ilv ilvState = .next ilvEnd ∧ t.len ≠ s.len ∧ t.tagval ≠ s.tagval ∧
    ilvEnd.sample 1 ≠ ilvState.sample 1 ∧ ilvEnd.mink ≠ ilvState.mink ∧ ilvEnd.maxbits ≠ ilvState.maxbits :=
  ⟨rfl, rfl, by decide⟩
theorem witness_EngineStaysInside : ilvState.params.wf ∧ exec .ilv ilvState = .next ilvEnd := ⟨by decide, rfl⟩

theorem witness_CapqResult : LegalStart .capq (capState 2 16 268435455 0) := legalStart_of (by decide)
theorem witness_ChkfitFits :
    LegalStart .chkfit (capState 2 2 44100 11025) ∧
    8 * (capState 2 2 44100 11025).len.toNat ≤
      (capState 2 2 44100 11025).capn.toNat * (capState 2 2 44100 11025).cfg.k.toNat :=
  ⟨legalStart_of (by decide), by decide⟩
theorem witness_ChkfittFits :
    LegalStart .chkfitt (capState 1 2 30000 7498) ∧
    8 * ((capState 1 2 30000 7498).len.toNat + (capState 1 2 30000 7498).tagWidth) ≤
      (capState 1 2 30000 7498).capn.toNat * (capState 1 2 30000 7498).cfg.k.toNat :=
  ⟨legalStart_of (by decide), by decide⟩
theorem witness_CheckCapacityExceeded :
    (LegalStart .chkfit (capState 2 2 44100 11026) ∧
      (capState 2 2 44100 11026).capn.toNat * (capState 2 2 44100 11026).cfg.k.toNat <
        8 * ((capState 2 2 44100 11026).len.toNat + 0)) ∧
    (LegalStart .chkfitt (capState 1 2 30000 7499) ∧
      (capState 1 2 30000 7499).capn.toNat * (capState 1 2 30000 7499).cfg.k.toNat <
        8 * ((capState 1 2 30000 7499).len.toNat + (capState 1 2 30000 7499).tagWidth)) :=
  ⟨⟨legalStart_of (by decide), by decide⟩, legalStart_of (by decide), by decide⟩
theorem witness_InterleaveCapacityExceeded_ilv :
    let s : State := { ilvState with len := 3 }
    LegalStart .ilv s ∧ s.capn.toNat * s.cfg.k.toNat < 8 * (s.len.toNat + 0) := ⟨legalStart_of (by decide), by decide⟩
theorem witness_InterleaveCapacityExceeded_ilvt :
    let s : State := { ilvtState with nsamp := 15 }
    LegalStart .ilvt s ∧ s.nsamp.toNat * s.cfg.k.toNat < 8 * (s.len.toNat + s.tagWidth) :=
  ⟨legalStart_of (by decide), by decide⟩
theorem witness_MaxpayIsLargest :
    8 * 1 ≤ 8 * 1 ∧ 7 * 1 < 8 * 1 ∧ 8 * 1 ≤ min 9 8 * 1 ∧ min 9 7 * 1 < 8 * 1 := by decide
theorem witness_MinkIsLeast : (1 ≤ 1 ∧ minkCap 2 false 1 16 = 16) ∧ minkCap 0 false 0 8 = 1 := by decide
theorem witness_TagWidthRanges :
    tagwOf 0 16 = 0 ∧ tagwOf 1 1 = 1 ∧ tagwOf 255 1 = 1 ∧ tagwOf 16 16 = 2 ∧ tagwOf 65535 1 = 2 ∧
    tagwOf 4096 16 = 3 ∧ tagwOf (2 ^ 24 - 1) 1 = 3 ∧ tagwOf (2 ^ 20) 16 = 4 ∧ tagwOf (2 ^ 32 - 1) 1 = 4 := by decide
theorem witness_CapacityMonotone : 255 ≤ 256 ∧ 1 ≤ 1 := by decide
theorem witness_TagNeverOverflows : fitCap 7498 (tagwOf 30000 2) 30000 2 := by decide

theorem witness_IlvDilvRoundTrip_pack :
    1 ≤ 3 ∧ 3 ≤ 16 ∧ numChunks (bitsOf [0xB4, 0x2D]).length 3 ≤ [0xA5#16, 0x3C, 0xFF, 0x00, 0x81, 0x7E].length := by decide
theorem witness_SamplesIndependent :
    let S : List Sample := [0xA5, 0x3C]
    let S' : List Sample := [0xFF, 0x3C]
    let b := [true, false, true, true]
    let b' := [false, false, true, true]
    1 ≤ 2 ∧ 1 < S.length ∧ 1 < S'.length ∧ S.getD 1 0#16 = S'.getD 1 0#16 ∧
    (b.drop (1 * 2)).take 2 = (b'.drop (1 * 2)).take 2 ∧ 3 < 4 ∧ S.getD (3 / 2) 0#16 = S'.getD (3 / 2) 0#16 := by decide
theorem witness_IlvResult :
    LegalStart .ilv ilvState ∧ 8 * ilvState.len.toNat ≤ ilvState.capn.toNat * ilvState.cfg.k.toNat ∧
    8 * ilvState.len.toNat ≤ ilvState.nsamp.toNat * ilvState.cfg.k.toNat := ⟨legalStart_of (by decide), by decide⟩
theorem witness_DilvResult :
    LegalStart .dilv dilvState ∧ dilvState.nbits.toNat % 8 = 0 ∧
    dilvState.nbits.toNat ≤ dilvState.nsamp.toNat * dilvState.cfg.k.toNat := ⟨legalStart_of (by decide), by decide⟩
theorem witness_DilvErrors :
    (LegalStart .dilv { dilvState with nbits := 20 } ∧ 20 % 8 ≠ 0) ∧
    LegalStart .dilv { dilvState with nbits := 24 } ∧ 24 % 8 = 0 ∧
    dilvState.nsamp.toNat * dilvState.cfg.k.toNat < 24 :=
  ⟨⟨legalStart_of (by decide), by decide⟩, legalStart_of (by decide), by decide⟩
theorem witness_IlvDilvRoundTrip :
    exec .ilv ilvState = .next ilvEnd ∧ ilvEnd.ecode = .noError ∧ LegalStart .dilv dilvState ∧
    dilvState.cfg.k = ilvState.cfg.k ∧ dilvState.nsamp = ilvState.nsamp ∧
    dilvState.nbits.toNat = 8 * ilvState.len.toNat ∧
    ∀ i, i < ilvState.nsamp.toNat → dilvState.sample i = ilvEnd.sample i :=
  ⟨rfl, by decide, legalStart_of (by decide), by decide, by decide, by decide, fun _ _ => rfl⟩

theorem witness_TagRoundTrip : 65535 < 2 ^ (8 * 2) := by decide
theorem witness_IlvtResult :
    LegalStart .ilvt ilvtState ∧
    8 * (ilvtState.len.toNat + ilvtState.tagWidth) ≤ ilvtState.capn.toNat * ilvtState.cfg.k.toNat ∧
    8 * (ilvtState.len.toNat + ilvtState.tagWidth) ≤ ilvtState.nsamp.toNat * ilvtState.cfg.k.toNat :=
  ⟨legalStart_of (by decide), by decide⟩
theorem witness_DilvtResult :
    let s := dilvtState 16 0x50 0x57
    LegalStart .dilvt s ∧ s.TagIs [0x07] ∧ 8 * s.tagWidth ≤ s.nsamp.toNat * s.cfg.k.toNat ∧
    tagValue [0x07] s.cfg.tagle + s.tagWidth ≤ s.capn.toNat * s.cfg.k.toNat / 8 ∧
    8 * (s.tagWidth + tagValue [0x07] s.cfg.tagle) ≤ s.nsamp.toNat * s.cfg.k.toNat :=
  ⟨legalStart_of (by decide), tagIs_of (by decide) (by decide), by decide⟩
theorem witness_DilvtErrors_noTag :
    let s := dilvtState 1 0x50 0x52
    LegalStart .dilvt s ∧ s.TagIs [0x02] ∧ s.nsamp.toNat * s.cfg.k.toNat < 8 * s.tagWidth :=
  ⟨legalStart_of (by decide), tagIs_of (by decide) (by decide), by decide⟩
theorem witness_DilvtErrors_corrupted :
    let s := dilvtState 16 0x50 0x58
    LegalStart .dilvt s ∧ s.TagIs [0x08] ∧ 8 * s.tagWidth ≤ s.nsamp.toNat * s.cfg.k.toNat ∧
    s.capn.toNat * s.cfg.k.toNat / 8 < tagValue [0x08] s.cfg.tagle + s.tagWidth :=
  ⟨legalStart_of (by decide), tagIs_of (by decide) (by decide), by decide⟩
theorem witness_DilvtErrors_noPayload :
    let s := dilvtState 15 0x50 0x57
    LegalStart .dilvt s ∧ s.TagIs [0x07] ∧ 8 * s.tagWidth ≤ s.nsamp.toNat * s.cfg.k.toNat ∧
    tagValue [0x07] s.cfg.tagle + s.tagWidth ≤ s.capn.toNat * s.cfg.k.toNat / 8 ∧
    s.nsamp.toNat * s.cfg.k.toNat < 8 * (s.tagWidth + tagValue [0x07] s.cfg.tagle) :=
  ⟨legalStart_of (by decide), tagIs_of (by decide) (by decide), by decide⟩
theorem witness_IlvtDilvtRoundTrip :
    exec .ilvt ilvtState = .next ilvtEnd ∧ ilvtEnd.ecode = .noError ∧ LegalStart .dilvt ilvtEnd ∧
    ilvtEnd.cfg = ilvtState.cfg ∧ ilvtEnd.capn = ilvtState.capn ∧ ilvtEnd.nsamp = ilvtState.nsamp :=
  ⟨rfl, by decide, legalStart_of (by decide), by decide⟩

theorem witness_StepKeepsInv :
    (busyWith 1 [.engine]).Inv ∧ step (busyWith 1 [.engine]) = .next (after (step (busyWith 1 [.engine]))) :=
  ⟨busyWith_inv _ _, rfl⟩
theorem witness_ParamsNeverChange :
    step (busyWith 1 [.host (.setRst true)]) = .next (after (step (busyWith 1 [.host (.setRst true)]))) := by rfl
theorem witness_AccessesWhileBusyDoNotMatter :
    ({ ilvState with phase := .busy, pcmd := 4 } : State).phase = .busy ∧ (busyWith 8 []).phase = .busy ∧
    ∀ e ∈ accesses, e.isAccess = true := by decide
theorem witness_CapacityCommandsReadNothingElse :
    let s := capState 1 2 30000 7501
    let s' : State := { s with nsamp := 65, hzd := true }
    exec .chkfitt s = .next (after (exec .chkfitt s)) ∧ exec .chkfitt s' = .next (after (exec .chkfitt s')) ∧
    Instr.chkfitt ∈ [Instr.capq, .chkfit, .chkfitt] ∧ s.cfg.depth = s'.cfg.depth ∧ s.cfg.k = s'.cfg.k ∧
    s.capn = s'.capn ∧ s.len = s'.len ∧ (after (exec .chkfitt s)).ecode = .capacityExceeded := ⟨rfl, rfl, by decide⟩

end Sys2Proof.Tests
end

section
/-! Every operation of the model keeps the invariant (10_state.md, 20_memory.md R71, 41_capacity.md R153): one rule per
operation, then a command, a host event and a step (O56). -/

namespace Sys2Proof.Machine

section
variable {s : State}

/-! ### The engine's operations -/

/-- The model's own bookkeeping carries no part of the invariant. -/
theorem State.Inv.modelFields (h : s.Inv) (r : Option BusResponse) (d : Nat) (turns : List Turn) :
    ({ s with response := r, drawCount := d, script := turns } : State).Inv := { h with }

theorem State.Inv.answer (h : s.Inv) (r : Option BusResponse) : (s.answer r).Inv := h.modelFields r _ _

/-- A completion leaves the engine IDLE, so nothing is asked of DONE and ECODE (43_control.md R193). -/
theorem State.Inv.finish (h : s.Inv) (e : ErrorCode) : (s.finish e).Inv :=
  { h with
    busyClear := fun hb => nomatch hb
    resetIdle := fun _ => rfl }

/-- The capacity registers of a legal K stay in their bounds and agree (41_capacity.md R142, R143, R153). -/
theorem State.Inv.capOut (h : s.Inv) (hk : s.cfg.k.toNat ≤ 16) : (s.capOut s.capSamples s.numLsb).Inv := by
  obtain ⟨hbits, htag, hbytes⟩ := capOut_recorded s hk
  exact
    { h with
      maxbitsLe := hbits ▸ mul_k_le s.capn hk
      tagwOfMaxbits := by rw [htag, hbits]
      capbytesOfMaxbits := by rw [hbytes, hbits] }

theorem State.Inv.recordFit (h : s.Inv) {pay least : Nat} (hpay : pay ≤ (2 ^ 28 - 1) * 16 / 8)
    (hleast : least ≤ 16) : (s.recordFit pay least).Inv :=
  { h with
    maxpayLe := by rw [State.recordFit_maxpay, BitVec.toNat_ofNat]; omega
    minkLe := by rw [State.recordFit_mink, BitVec.toNat_ofNat]; omega }

theorem State.Inv.recordTag (h : s.Inv) (v : Nat) : (s.recordTag v).Inv := { h with }

theorem State.Inv.setLen (h : s.Inv) (v : Nat) : (s.setLen v).Inv := { h with }

theorem State.Inv.storeSamples (h : s.Inv) {vs : List Sample} (hvs : vs.length ≤ s.params.nsMax) :
    (s.storeSamples vs).Inv :=
  { h with
    sramWf := memWriteList_wf h.sramWf 0 vs
    sramBelow := memWriteList_below h.sramBelow 0 vs (by omega) }

theorem State.Inv.storePayload (h : s.Inv) {vs : List Byte} (hvs : vs.length ≤ s.params.pbMax) :
    (s.storePayload vs).Inv :=
  { h with
    pramWf := memWriteList_wf h.pramWf 0 vs
    pramBelow := memWriteList_below h.pramBelow 0 vs (by omega) }

/-- An interleave writes at most the N samples present. -/
theorem State.Inv.interleave (h : s.Inv) (b : List Bool) (hN : s.numSamples ≤ s.params.nsMax) :
    (s.interleave b).Inv := by
  refine h.storeSamples ?_
  rw [List.length_take, pack_length, State.samples_length]
  omega

/-! ### A command -/

/-- A legal K takes at most 2 bytes from each sample, so what N samples yield fits PRAM (00_scope.md R5). -/
theorem LegalStart.recovered_le {i : Instr} (l : LegalStart i s) (h : s.Inv) (hN : s.nsamp.toNat ≤ s.params.nsMax)
    {n : Nat} (hn : 8 * n ≤ s.numSamples * s.numLsb) : n ≤ s.params.pbMax := by
  obtain ⟨-, -, -, hpb, -⟩ := h.paramsWf
  have hmul : s.numSamples * s.numLsb ≤ s.params.nsMax * 16 := Nat.mul_le_mul hN l.k_le
  omega

theorem LegalStart.width_le {i : Instr} (l : LegalStart i s) : s.width ≤ 16 := by
  have := l.depth
  unfold State.width
  omega

/-- The reports of a legal start are in their bounds (41_capacity.md R146, R147, R153). -/
theorem State.Inv.report {i : Instr} (h : s.Inv) (l : LegalStart i s) {pay least : Nat}
    (hpay : pay ≤ capbytesOf s.capSamples s.numLsb) (hleast : least ≤ s.width) :
    ((s.capOut s.capSamples s.numLsb).recordFit pay least).Inv :=
  (h.capOut l.k_le).recordFit
    (hpay.trans (Nat.div_le_div_right (mul_k_le s.capn l.k_le))) (hleast.trans l.width_le)

theorem CommandBody.inv {i : Instr} {u : State} (c : CommandBody i s u) (h : s.Inv) : u.Inv := by
  cases c with
  | nothing => exact h
  | capacity l _ => exact h.capOut l.k_le
  | report l _ pay least hpay hleast => exact h.report l hpay hleast
  | interleaved l hi pay least b hpay hleast _ =>
    have hN : s.nsamp.toNat ≤ s.params.nsMax := l.samples (by rcases hi with rfl | rfl <;> simp)
    exact (h.report l hpay hleast).interleave b hN
  | recovered l hi vs hvs =>
    have hN : s.nsamp.toNat ≤ s.params.nsMax := l.samples (by simp [hi])
    exact h.storePayload (l.recovered_le h hN hvs)
  | tagRead l _ v => exact (h.capOut l.k_le).recordTag v
  | framed l hi v vs hvs =>
    have hN : s.nsamp.toNat ≤ s.params.nsMax := l.samples (by simp [hi])
    exact (((h.capOut l.k_le).recordTag v).storePayload (l.recovered_le h hN hvs)).setLen v

theorem State.Inv.exec (h : s.Inv) {i : Instr} {t : State} (ht : exec i s = .next t) : t.Inv := by
  obtain ⟨e, u, heq, hbody, -⟩ := exec_cases i s
  obtain rfl : u.finish e = t := by simpa [heq] using ht
  exact (hbody.inv h).finish e

/-! ### A host event -/

/-- An issue is accepted with rst released, and clears DONE and ECODE (43_control.md R190). -/
theorem State.Inv.issue (h : s.Inv) (hr : s.rst = false) (w : Word) : (s.issue w).Inv :=
  { h with
    busyClear := fun _ => ⟨rfl, rfl⟩
    resetIdle := fun hr' => absurd (hr.symm.trans hr') Bool.false_ne_true }

/-- A W1C write clears DONE or keeps it (10_state.md R37). -/
theorem State.Inv.writeStatus (h : s.Inv) (v : Word) : (s.writeStatus v).Inv :=
  { h with
    busyClear := fun hb => by
      obtain ⟨hdone, hecode⟩ := h.busyClear hb
      exact ⟨by simp [hdone], hecode⟩ }

theorem State.Inv.dropWrite (h : s.Inv) : s.dropWrite.Inv := { h with }

theorem State.Inv.storeSample (h : s.Inv) {i : Nat} (hi : i < s.params.nsMax) (v : Sample) : (s.storeSample i v).Inv :=
  { h with
    sramWf := memWrite_wf h.sramWf i v
    sramBelow := memWrite_below h.sramBelow hi v }

theorem State.Inv.storePayloadWord (h : s.Inv) {j : Nat} (hj : j + 4 ≤ s.params.pbMax) (v : Word) :
    (s.storePayloadWord j v).Inv :=
  { h with
    pramWf := memWriteList_wf h.pramWf j _
    pramBelow := memWriteList_below h.pramBelow j _ hj }

theorem State.Inv.writeReg (h : s.Inv) (hr : s.rst = false) (r : Reg) (v : Word) : (s.writeReg r v).Inv := by
  cases r with
  | cmd => exact h.issue hr v
  | status => exact h.writeStatus v
  | cfg | nsamp | capn | len | nbits => exact { h with }
  | id | maxbits | tagw | capbytes | maxpay | req | mink | tagval | nsmax | pbmax => exact h

/-- A mapped RAM word lies within its RAM: four payload bytes, for PB_MAX is a multiple of 4 (20_memory.md R61). -/
theorem State.Inv.writeTarget (h : s.Inv) (hr : s.rst = false) {a : Word} {t : Target}
    (ht : target s.params a = .ok t) (v : Word) : (s.writeTarget t v).Inv := by
  cases t with
  | reg r => exact h.writeReg hr r v
  | reserved => exact h
  | sample i => exact h.storeSample (target_sample ht).1 _
  | payload j =>
    obtain ⟨hj4, hj, -⟩ := target_payload ht
    obtain ⟨-, -, hpb4, -⟩ := h.paramsWf
    exact h.storePayloadWord (by omega) v

/-- A reset leaves every register 0 and no cell written, whatever the level rst is driven to (70_reset_and_hazards.md
R230). -/
theorem State.Inv.reset (h : s.Inv) (level : Bool) : ({ s.afterReset with rst := level } : State).Inv where
  paramsWf := h.paramsWf
  sramWf := .nil
  sramBelow := fun _ hc => nomatch hc
  pramWf := .nil
  pramBelow := fun _ hc => nomatch hc
  busyClear := fun _ => ⟨rfl, rfl⟩
  resetIdle := fun _ => rfl
  maxbitsLe := Nat.zero_le _
  tagwOfMaxbits := show 0 = (bitLength 0 + 7) / 8 by decide
  capbytesOfMaxbits := (Nat.zero_div 8).symm
  maxpayLe := Nat.zero_le _
  minkLe := Nat.zero_le _

theorem State.Inv.hostEvent (h : s.Inv) (e : HostEvent) : (s.hostEvent e).Inv := by
  have effect := s.hostEvent_effect e
  generalize s.hostEvent e = t at effect ⊢
  cases effect with
  | read a r d => exact h.modelFields r d s.script
  | ignored a v k r d => exact h.modelFields r d s.script
  | status a v => exact (h.writeStatus v).answer _
  | dropped => exact h.dropWrite.answer _
  | written a v t hr _ ht => exact (h.writeTarget hr ht v).answer _
  | reset level => exact (h.reset level).answer _
  | noReset => exact h.answer _

/-! ### A step -/

theorem StepEffect.inv {t : State} (effect : StepEffect s t) (h : s.Inv) : t.Inv := by
  have turnTaken (r : List Turn) : ({ s with script := r } : State).Inv := h.modelFields s.response s.drawCount r
  cases effect with
  | command r i _ _ _ ht => exact (turnTaken r).exec ht
  | illegal r => exact (turnTaken r).finish .illegalCommand
  | pass r => exact turnTaken r
  | host r e => exact (turnTaken r).hostEvent e

end

/-- Settles O56: what a step can do is a command, an illegal word's completion, a passed turn or a host event, and each
keeps the invariant. -/
theorem stepKeepsInv : Obligations.StepKeepsInv := fun _ _ h hstep => (step_effect hstep).inv h

end Sys2Proof.Machine
end

section
/-! The register page on the bus (10_state.md R23 to R49): where a register stands, and what a read or a write of it
does in each phase. -/

namespace Sys2Proof.Machine

section
variable {p : Params} {a : Word}

/-! ### Where the registers stand -/

theorem regAt_some {n : Nat} {r : Reg} (h : regAt n = some r) : n = regOffset r := by
  unfold regAt at h
  split at h <;> cases h <;> rfl

theorem regOffset_le (r : Reg) : regOffset r ≤ 0x40 := by cases r <;> decide

theorem regAt_reserved {n : Nat} (h : 0x44 ≤ n) : regAt n = none := by
  cases hreg : regAt n with
  | none => rfl
  | some r =>
    have := regAt_some hreg
    have := regOffset_le r
    omega

theorem target_reserved (h4 : a.toNat % 4 = 0) (hlo : 0x44 ≤ a.toNat) (hhi : a.toNat ≤ 0xFC) :
    target p a = .ok .reserved := by
  have hpage : a.toNat < 0x100 := by omega
  simp [target, h4, hpage, regAt_reserved hlo]

/-- Only offset 0x1C is STATUS. -/
theorem target_ne_status (ha : a ≠ 0x0000001C#32) : target p a ≠ .ok (.reg .status) := fun ht => by
  obtain ⟨-, -, hreg⟩ := target_reg ht
  exact ha (BitVec.eq_of_toNat_eq (regAt_some hreg))

/-- The words of ID, of the result registers, of NSMAX and PBMAX and of the reserved offsets ignore a write. -/
theorem target_readOnly (h4 : a.toNat % 4 = 0) (ha : a.toNat = 0 ∨ (0x20 ≤ a.toNat ∧ a.toNat ≤ 0xFC)) :
    ∃ t, target p a = .ok t ∧ ∀ (v : Word) (s : State), s.writeTarget t v = s := by
  obtain ⟨t, ht⟩ := (target_isOk_iff (p := p) a).2 ⟨h4, .inl (by omega)⟩
  refine ⟨t, ht, ?_⟩
  cases t with
  | reserved => exact fun _ _ => rfl
  | sample i => have := (target_sample ht).2; omega
  | payload j => have := (target_payload ht).2.2; omega
  | reg r =>
    have hoffset := regAt_some (target_reg ht).2.2
    cases r with
    | cfg | nsamp | capn | len | nbits | cmd | status => simp only [regOffset] at hoffset; omega
    | id | maxbits | tagw | capbytes | maxpay | req | mink | tagval | nsmax | pbmax => exact fun _ _ => rfl

end

section
variable {s : State}

/-! ### Reads and writes of a register -/

theorem State.hostEvent_read_reg_idle (hr : s.rst = false) (hi : s.phase = .idle) (r : Reg) :
    s.hostEvent (.read (regAddr r)) = s.answer (some (.data (s.readReg r))) :=
  State.hostEvent_read hr (target_regAddr r) (State.readsAnyValue_idle hi)

/-- STATUS is read exactly in both phases (70_reset_and_hazards.md R235). -/
theorem State.hostEvent_read_status (hr : s.rst = false) :
    s.hostEvent (.read 0x0000001C#32) = s.answer (some (.data s.statusWord)) :=
  State.hostEvent_read hr (target_regAddr .status) (Bool.and_false _)

theorem State.hostEvent_write_reg_idle (hr : s.rst = false) (hi : s.phase = .idle) {r : Reg} (hs : r ≠ .status)
    (v : Word) : s.hostEvent (.write (regAddr r) v 0xF#4) = (s.writeReg r v).answer (some .ok) := by
  rw [State.hostEvent_write hr (target_regAddr r), State.acceptWrite_idle hi (by simpa using hs)]
  rfl

/-- STATUS is written alike in both phases (R234). -/
theorem State.hostEvent_write_status (hr : s.rst = false) (v : Word) :
    s.hostEvent (.write 0x0000001C#32 v 0xF#4) = (s.writeStatus v).answer (some .ok) := by
  rw [State.hostEvent_write (a := 0x0000001C#32) hr (target_regAddr .status), State.acceptWrite_status]

/-- Every other mapped word drops a write while BUSY (R234). -/
theorem State.hostEvent_write_busy (hr : s.rst = false) (hb : s.phase = .busy) {a : Word}
    (hm : MappedWord s.params a.toNat) (ha : a ≠ 0x0000001C#32) (v : Word) :
    s.hostEvent (.write a v 0xF#4) = s.dropWrite.answer (some .ok) := by
  obtain ⟨t, ht⟩ := (target_isOk_iff a).2 hm
  have hs : t ≠ .reg .status := fun e => target_ne_status ha (e ▸ ht)
  rw [State.hostEvent_write hr ht, State.acceptWrite_busy hb hs]

/-! ### The fields of STATUS and CFG -/

/-- A W1C bit, in the words of R37 and R39: cleared where a 1 is written, kept otherwise. -/
theorem State.writeStatus_eq (v : Word) :
    s.writeStatus v =
      { s with
        done := if v.getLsbD 1 then false else s.done
        hzd := if v.getLsbD 3 then false else s.hzd } := by
  have w1c : ∀ old written : Bool, (old && !written) = if written then false else old := by decide
  simp only [State.writeStatus, w1c]

theorem State.busy_iff : s.busy = true ↔ s.phase = .busy := by simp [State.busy]

theorem State.err_iff : s.err = true ↔ s.ecode ≠ .noError := by
  cases h : s.ecode <;> simp [State.err, errorNumber, h]

/-- The one-bit fields of STATUS (R35). -/
theorem State.statusWord_bits (s : State) :
    s.statusWord.getLsbD 0 = s.busy ∧ s.statusWord.getLsbD 1 = s.done ∧ s.statusWord.getLsbD 2 = s.err ∧
      s.statusWord.getLsbD 3 = s.hzd := by
  simp only [State.statusWord, BitVec.getLsbD_append]
  simp

/-- ECODE between the two reserved ranges (R35). -/
theorem State.statusWord_slices (s : State) :
    s.statusWord.extractLsb' 4 4 = 0#4 ∧ s.statusWord.extractLsb' 8 4 = errorNumber s.ecode ∧
      s.statusWord.extractLsb' 12 20 = 0#20 := by
  unfold State.statusWord
  simp (disch := decide) only [BitVec.extractLsb'_append_eq_of_add_le, BitVec.extractLsb'_append_eq_of_le]
  simp

end

/-- CFG reads back the word written, its reserved bits 0 (R25, 30_encoding.md R96). -/
theorem cfgToWord_cfgOfWord (w : Word) : cfgToWord (cfgOfWord w) = w &&& 0x00031F07#32 := by
  apply BitVec.eq_of_getLsbD_eq
  intro i hi
  simp only [cfgToWord, cfgOfWord, BitVec.getLsbD_append, BitVec.getLsbD_and, BitVec.getLsbD_extractLsb',
    BitVec.getLsbD_ofBool]
  interval_cases i <;> simp

end Sys2Proof.Machine
end

section
/-! What no command and no step touches: the inputs of a command (30_encoding.md R95) and the parameters (10_state.md
R48). -/

namespace Sys2Proof.Machine

section
variable {s t : State}

/-! ### The engine's operations keep the inputs -/

theorem State.SameInputs.refl (s : State) : s.SameInputs s := by constructor <;> rfl

section
variable (h : s.SameInputs t)
include h

theorem State.SameInputs.finish (e : ErrorCode) : s.SameInputs (t.finish e) := { h with }

theorem State.SameInputs.capOut (n k : Nat) : s.SameInputs (t.capOut n k) := { h with }

theorem State.SameInputs.recordFit (pay least : Nat) : s.SameInputs (t.recordFit pay least) := { h with }

theorem State.SameInputs.recordTag (v : Nat) : s.SameInputs (t.recordTag v) := { h with }

theorem State.SameInputs.setLen (v : Nat) : s.SameInputs (t.setLen v) := { h with }

theorem State.SameInputs.storeSamples (vs : List Sample) : s.SameInputs (t.storeSamples vs) := { h with }

theorem State.SameInputs.storePayload (vs : List Byte) : s.SameInputs (t.storePayload vs) := { h with }

theorem State.SameInputs.interleave (b : List Bool) : s.SameInputs (t.interleave b) := h.storeSamples _

end

theorem CommandBody.sameInputs {i : Instr} (c : CommandBody i s t) : s.SameInputs t := by
  have start := State.SameInputs.refl s
  cases c with
  | nothing => exact start
  | capacity => exact start.capOut _ _
  | report => exact (start.capOut _ _).recordFit _ _
  | interleaved => exact ((start.capOut _ _).recordFit _ _).interleave _
  | recovered => exact start.storePayload _
  | tagRead => exact (start.capOut _ _).recordTag _
  | framed => exact (((start.capOut _ _).recordTag _).storePayload _).setLen _

/-! ### A command and a step -/

/-- Whatever its code, a command ends IDLE with DONE 1 and its inputs kept (43_control.md R193). -/
theorem exec_ends {i : Instr} (h : exec i s = .next t) : t.phase = .idle ∧ t.done = true ∧ s.SameInputs t := by
  obtain ⟨e, u, heq, hbody, -⟩ := exec_cases i s
  obtain rfl : u.finish e = t := by simpa [heq] using h
  exact ⟨rfl, rfl, hbody.sameInputs.finish e⟩

theorem StepEffect.params (effect : StepEffect s t) : t.params = s.params := by
  cases effect with
  | command r i _ _ _ h =>
    obtain ⟨-, -, same⟩ := exec_ends h
    exact same.params
  | illegal | pass => rfl
  | host r e => exact State.hostEvent_params e _

end

/-- The parameters a machine starts with are admitted (00_scope.md R5). -/
theorem State.reset_params_wf : State.reset.params.wf := by
  have hns : Config.nsMaxChoice % (2 ^ 28 - 1) < 2 ^ 28 - 1 := Nat.mod_lt _ (by decide)
  have hpb : Config.pbMaxChoice % (2 ^ 29 + 1 - (Config.nsMaxChoice % (2 ^ 28 - 1) + 1 + 1) / 2) <
      2 ^ 29 + 1 - (Config.nsMaxChoice % (2 ^ 28 - 1) + 1 + 1) / 2 := Nat.mod_lt _ (by omega)
  simp only [State.reset, Config.params, Params.wf]
  omega

end Sys2Proof.Machine
end

section
/-! The registers of the host's page (10_state.md): what it reads and writes there, their values after reset, irq, and
that NS_MAX and PB_MAX stay as they are. -/

namespace Sys2Proof.Machine

/-- Settles O11: the word read is laid out as R35 says. -/
theorem statusReadFields : Obligations.StatusReadFields := by
  intro s hr
  obtain ⟨hbusy, hdone, herr, hhzd⟩ := s.statusWord_bits
  obtain ⟨hlow, hcode, hhigh⟩ := s.statusWord_slices
  exact ⟨s.statusWord, State.hostEvent_read_status hr, by rw [hbusy, State.busy_iff], hdone,
    by rw [herr, State.err_iff], hhzd, hlow, hcode, hhigh, rfl⟩

/-- Settles O16: every field of CFG takes the bits written, and the reserved bits of the word are lost. -/
theorem cfgWriteReadBack : Obligations.CfgWriteReadBack := by
  intro s w hr hi
  have hwrite := State.hostEvent_write_reg_idle hr hi (r := .cfg) nofun w
  refine ⟨_, hwrite, rfl, rfl, rfl, rfl, rfl, ?_⟩
  rw [← cfgToWord_cfgOfWord]
  exact State.hostEvent_read_reg_idle (s := (s.writeReg .cfg w).answer (some .ok)) hr hi .cfg

/-- Settles O18: a reserved offset reads 0; the words that ignore a write do so while IDLE and drop it while BUSY. -/
theorem readOnlyWritesIgnored : Obligations.ReadOnlyWritesIgnored := by
  intro s a v hr h4
  refine ⟨fun hlo hhi => State.hostEvent_read hr (target_reserved h4 hlo hhi) (Bool.and_false _), fun ha => ?_, ?_⟩
  · have hne : a ≠ 0x0000001C#32 := by rintro rfl; revert ha; decide
    have hm : MappedWord s.params a.toNat := ⟨h4, .inl (by omega)⟩
    refine ⟨fun hi => ?_, fun hb => ⟨.ok, nofun, State.hostEvent_write_busy hr hb hm hne v⟩⟩
    obtain ⟨t, ht, hignored⟩ := target_readOnly (p := s.params) h4 ha
    rw [State.hostEvent_write hr ht, State.acceptWrite_idle hi (fun e => target_ne_status hne (e ▸ ht)), hignored]
    rfl
  · rw [State.hostEvent_write_status hr]
    exact ⟨rfl, rfl⟩

/-- Settles O25: irq follows DONE, which an issue and a W1C write clear, a completion sets and a dropped write keeps. -/
theorem irqLevel : Obligations.IrqLevel := by
  refine ⟨fun s w hr hi => ?_, fun s v hr hv => ?_, fun i s t h => ?_, fun s a v hr hb ha => ?_⟩
  · have hissue := State.hostEvent_write_reg_idle hr hi (r := .cmd) nofun w
    exact (congrArg State.irq hissue).trans (Bool.and_false _)
  · rw [State.hostEvent_write_status hr]
    simp [State.irq, hv]
  · obtain ⟨-, hdone, same⟩ := exec_ends h
    simp [State.irq, hdone, same.cfg]
  · by_cases hm : MappedWord s.params a.toNat
    · rw [State.hostEvent_write_busy hr hb hm ha]
      rfl
    · rw [State.hostEvent_write_unmapped hr hm]
      rfl

/-- Settles O57: neither a command, an illegal word's completion, a passed turn nor a host event touches them. -/
theorem paramsNeverChange : Obligations.ParamsNeverChange := fun _ _ h => (step_effect h).params

/-- Settles O10: the write has its W1C meaning in either phase. -/
theorem statusWriteClears : Obligations.StatusWriteClears := by
  intro s v hr
  rw [State.hostEvent_write_status hr, State.writeStatus_eq]
  rfl

/-- Settles O15: each register answers its value. -/
theorem registerReads : Obligations.RegisterReads := by
  intro s hr hi
  have read (r : Reg) : (s.hostEvent (.read (regAddr r))).response = some (.data (s.readReg r)) :=
    congrArg State.response (State.hostEvent_read_reg_idle hr hi r)
  exact ⟨read .id, read .nsamp, read .capn, read .len, read .nbits, read .cmd, read .maxbits, read .tagw,
    read .capbytes, read .maxpay, read .req, read .mink, read .tagval, read .nsmax, read .pbmax⟩

/-- Settles O17: each register stores the bits it has. -/
theorem countWrites : Obligations.CountWrites := by
  intro s w hr hi
  have write (r : Reg) (h : r ≠ .status) := State.hostEvent_write_reg_idle hr hi h w
  rw [← BitVec.setWidth_eq_extractLsb' (by decide)]
  exact ⟨write .nsamp nofun, write .capn nofun, write .len nofun, write .nbits nofun⟩

/-- Settles O23: the reset values computed, and the parameters admitted. -/
theorem resetValues : Obligations.ResetValues := by
  refine ⟨rfl, rfl, rfl, rfl, ?_, rfl, rfl, State.reset_params_wf, rfl⟩
  simp only [List.forall_mem_cons]
  exact ⟨rfl, rfl, rfl, rfl, rfl, rfl, rfl, rfl, rfl, rfl, rfl, nofun⟩

/-- Settles O55: IDLE, no cell written, every result register 0. -/
theorem resetInv : Obligations.ResetInv where
  paramsWf := State.reset_params_wf
  sramWf := .nil
  sramBelow := nofun
  pramWf := .nil
  pramBelow := nofun
  busyClear := nofun
  resetIdle := nofun
  maxbitsLe := Nat.zero_le _
  tagwOfMaxbits := show 0 = (bitLength 0 + 7) / 8 by decide
  capbytesOfMaxbits := (Nat.zero_div 8).symm
  maxpayLe := Nat.zero_le _
  minkLe := Nat.zero_le _

end Sys2Proof.Machine
end

section
/-! The host's accesses by address (20_memory.md R61 to R70): what any read does, the words of the two RAM windows, and
how far a command writes into the RAMs (R71). -/

namespace Sys2Proof.Machine

section
variable {p : Params} {a : Word}

/-! ### Where the RAM words stand -/

theorem target_sampleWord {i : Nat} (hi : i < p.nsMax) (ha : a.toNat = 0x40000000 + 4 * i) :
    target p a = .ok (.sample i) := by
  have aligned : a.toNat % 4 = 0 := by omega
  have offPage : ¬a.toNat < 0x100 := by omega
  have inWindow : sampleBase ≤ a.toNat ∧ a.toNat < sampleBase + 4 * p.nsMax := by unfold sampleBase; omega
  have index : (a.toNat - sampleBase) / 4 = i := by unfold sampleBase; omega
  simp [target, aligned, offPage, inWindow, index]

/-- The sample window ends below the payload window, for NS_MAX is at most 2^28 − 1 (00_scope.md R5). -/
theorem target_payloadWord (hp : p.wf) {m : Nat} (hm : 4 * m < p.pbMax) (ha : a.toNat = 0x80000000 + 4 * m) :
    target p a = .ok (.payload (4 * m)) := by
  obtain ⟨-, hns, -⟩ := hp
  have aligned : a.toNat % 4 = 0 := by omega
  have offPage : ¬a.toNat < 0x100 := by omega
  have notSample : ¬(sampleBase ≤ a.toNat ∧ a.toNat < sampleBase + 4 * p.nsMax) := by unfold sampleBase; omega
  have inWindow : payloadBase ≤ a.toNat ∧ a.toNat < payloadBase + p.pbMax := by unfold payloadBase; omega
  have index : a.toNat - payloadBase = 4 * m := by unfold payloadBase; omega
  simp [target, aligned, offPage, notSample, inWindow, index]

/-- Beyond the register page there is no STATUS. -/
theorem ne_statusAddr (ha : 0x100 ≤ a.toNat) : a ≠ 0x0000001C#32 := by
  rintro rfl
  revert ha
  decide

end

section
variable {s : State} {a : Word} {t : Target}

/-! ### Reads, and accesses of a RAM word -/

/-- A read of a mapped word answers data, exact or drawn, and moves nothing but the draw counter (20_memory.md R70). -/
theorem State.hostEvent_read_mapped (hr : s.rst = false) (hm : MappedWord s.params a.toNat) :
    ∃ v d, s.hostEvent (.read a) = { s with response := some (.data v), drawCount := d } := by
  obtain ⟨t, ht⟩ := (target_isOk_iff a).2 hm
  cases hx : s.readsAnyValue t with
  | false => exact ⟨s.readTarget t, s.drawCount, State.hostEvent_read hr ht hx⟩
  | true => exact ⟨s.drawn, s.drawCount + 1, State.hostEvent_read_any hr ht hx⟩

theorem State.hostEvent_read_idle (hr : s.rst = false) (hi : s.phase = .idle) (ht : target s.params a = .ok t) :
    s.hostEvent (.read a) = s.answer (some (.data (s.readTarget t))) :=
  State.hostEvent_read hr ht (State.readsAnyValue_idle hi)

theorem State.hostEvent_write_idle (hr : s.rst = false) (hi : s.phase = .idle) (ht : target s.params a = .ok t)
    (hs : t ≠ .reg .status) (v : Word) :
    s.hostEvent (.write a v 0xF#4) = (s.writeTarget t v).answer (some .ok) := by
  rw [State.hostEvent_write hr ht, State.acceptWrite_idle hi hs]

/-- The byte lanes of a payload word (R68). -/
theorem State.payloadWord_lane (s : State) (j : Nat) {b : Nat} (hb : b < 4) :
    (s.payloadWord j).extractLsb' (8 * b) 8 = s.payloadByte (j + b) := by
  unfold State.payloadWord
  interval_cases b
  all_goals
    simp (disch := decide) only [BitVec.extractLsb'_append_eq_of_add_le, BitVec.extractLsb'_append_eq_of_le]
    simp

/-! ### How far a command writes -/

/-- What N samples yield fits PRAM by the parameters alone, 2 bytes a sample (00_scope.md R5); no invariant is asked. -/
theorem LegalStart.bytes_le {i : Instr} (l : LegalStart i s) (hp : s.params.wf)
    (hi : i ∈ [Instr.ilv, .ilvt, .dilv, .dilvt]) {n : Nat} (hn : 8 * n ≤ s.numSamples * s.numLsb) :
    n ≤ s.params.pbMax := by
  obtain ⟨-, -, -, hpb, -⟩ := hp
  have hmul : s.numSamples * s.numLsb ≤ s.params.nsMax * 16 := Nat.mul_le_mul (l.samples hi) l.k_le
  omega

/-- A stream that fits N samples leaves every later entry as it was (40_bit_codec.md R114). -/
theorem State.interleave_sample_beyond (s : State) {b : List Bool} (hk : 1 ≤ s.numLsb)
    (hfit : b.length ≤ s.numSamples * s.numLsb) {i : Nat} (hi : s.numSamples ≤ i) :
    (s.interleave b).sample i = s.sample i := by
  have hmul : s.numSamples * s.numLsb ≤ i * s.numLsb := Nat.mul_le_mul_right _ hi
  rw [s.interleave_sample b hk hfit, if_neg (by omega)]

theorem State.storePayload_payloadByte_beyond (s : State) {vs : List Byte} {j : Nat} (hj : vs.length ≤ j) :
    (s.storePayload vs).payloadByte j = s.payloadByte j := by
  rw [s.storePayload_payloadByte, if_neg (by omega)]

/-- Only an interleave writes samples, and it writes those present (20_memory.md R71). -/
theorem CommandBody.sample_beyond {i : Instr} {u : State} (c : CommandBody i s u) {n : Nat} (hn : s.nsamp.toNat ≤ n) :
    u.sample n = s.sample n := by
  cases c with
  | nothing | capacity | report | recovered | tagRead | framed => rfl
  | interleaved l _ pay least b _ _ hb =>
    exact ((s.capOut s.capSamples s.numLsb).recordFit pay least).interleave_sample_beyond l.kPos hb hn

/-- Only a deinterleave writes payload bytes, and what it recovers fits the RAM (R71, 41_capacity.md R153). -/
theorem CommandBody.payloadByte_beyond {i : Instr} {u : State} (c : CommandBody i s u) (hp : s.params.wf) {j : Nat}
    (hj : s.params.pbMax ≤ j) : u.payloadByte j = s.payloadByte j := by
  cases c with
  | nothing | capacity | report | interleaved | tagRead => rfl
  | recovered l hi vs hvs =>
    exact s.storePayload_payloadByte_beyond ((l.bytes_le hp (by simp [hi]) hvs).trans hj)
  | framed l hi v vs hvs =>
    exact ((s.capOut s.capSamples s.numLsb).recordTag v).storePayload_payloadByte_beyond
      ((l.bytes_le hp (by simp [hi]) hvs).trans hj)

end

end Sys2Proof.Machine
end

section
/-! What the host sees of the address map (20_memory.md): the turn of a host event, refused accesses, reads, the two RAM
windows, and that a command stays inside the RAMs. -/

namespace Sys2Proof.Machine

/-- Settles O13: such an access has no target, or is refused for its strobes. -/
theorem busErrorsChangeNothing : Obligations.BusErrorsChangeNothing := fun _ _ hr =>
  ⟨fun hm => ⟨State.hostEvent_read_unmapped hr hm, State.hostEvent_write_unmapped hr hm⟩,
    fun v _ hk => State.hostEvent_write_strobes hr hk v⟩

/-- Settles O14: a mapped word answers data, any other address a bus error. -/
theorem readsHaveNoSideEffect : Obligations.ReadsHaveNoSideEffect := by
  intro s a hr
  by_cases hm : MappedWord s.params a.toNat
  · obtain ⟨v, d, hread⟩ := State.hostEvent_read_mapped hr hm
    exact ⟨.data v, d, hread, fun _ => ⟨v, rfl⟩⟩
  · exact ⟨.busError, s.drawCount, State.hostEvent_read_unmapped hr hm, fun h => absurd h hm⟩

/-- Settles O21: the word's target is the one entry. -/
theorem sampleWindow : Obligations.SampleWindow := by
  intro s i a v hr _ hi ha
  have ht := target_sampleWord hi ha
  have hm : MappedWord s.params a.toNat := (target_isOk_iff a).1 ⟨_, ht⟩
  refine ⟨fun hidle => State.hostEvent_read_idle hr hidle ht, fun hidle => ?_, fun hb => ?_, fun _ => ?_⟩
  · refine ⟨_, State.hostEvent_write_idle hr hidle ht nofun v, rfl, ?_, fun j hj => ?_⟩
    · rw [← BitVec.setWidth_eq_extractLsb' (by decide)]
      exact (s.storeSample_sample i i _).trans (if_pos rfl)
    · exact (s.storeSample_sample i j _).trans (if_neg hj)
  · exact ⟨_, State.hostEvent_write_busy hr hb hm (ne_statusAddr (by omega)) v⟩
  · exact State.hostEvent_read_mapped hr hm

/-- Settles O22: the word's target is the four bytes, one in each lane. -/
theorem payloadWindow : Obligations.PayloadWindow := by
  intro s m a v hr hp hlt ha
  have ht := target_payloadWord hp hlt ha
  have hm : MappedWord s.params a.toNat := (target_isOk_iff a).1 ⟨_, ht⟩
  refine ⟨fun hidle => ?_, fun hidle => ?_, fun hb => ?_, fun _ => ?_⟩
  · exact ⟨_, State.hostEvent_read_idle hr hidle ht, fun b hb => s.payloadWord_lane _ hb⟩
  · refine ⟨_, State.hostEvent_write_idle hr hidle ht nofun v, rfl, fun b hb => ?_, fun j hj => ?_⟩
    · have hlane := s.storePayloadWord_payloadByte (4 * m) (4 * m + b) v
      rw [if_pos (by omega), Nat.add_sub_cancel_left] at hlane
      exact hlane
    · exact (s.storePayloadWord_payloadByte (4 * m) j v).trans (if_neg (by omega))
  · exact ⟨_, State.hostEvent_write_busy hr hb hm (ne_statusAddr (by omega)) v⟩
  · exact State.hostEvent_read_mapped hr hm

/-- Settles O33: a command is a body that stays inside both RAMs, and a completion that writes neither. -/
theorem engineStaysInside : Obligations.EngineStaysInside := by
  intro i s t hp h
  obtain ⟨e, u, heq, hbody, -⟩ := exec_cases i s
  obtain rfl : u.finish e = t := by simpa [heq] using h
  exact ⟨fun _ hn => hbody.sample_beyond hn, fun _ hj => hbody.payloadByte_beyond hp hj⟩

/-- Settles O8: a step takes the head of the turns, and no host event touches the turns. -/
theorem hostTurns : Obligations.HostTurns := fun _ _ =>
  ⟨fun e hs => ⟨_, step_host hs, rfl, State.hostEvent_script e _⟩, fun hi hs => step_idle_engine hs hi⟩

end Sys2Proof.Machine
end

section
/-! The decoder (30_encoding.md R90 to R94): what it answers on each range of command words, and that the words it
accepts are those of the eight commands. -/

namespace Sys2Proof

/-! ### The fields of a word -/

theorem rsvField_eq_zero_iff (w : Word) : rsvField w = 0#24 ↔ w.toNat < 2 ^ 8 := by
  have := w.isLt
  rw [← BitVec.toNat_inj, rsvField, BitVec.extractLsb'_toNat, BitVec.toNat_ofNat, Nat.shiftRight_eq_div_pow]
  omega

theorem opcField_toNat {w : Word} (h : w.toNat < 2 ^ 8) : (opcField w).toNat = w.toNat := by
  rw [opcField, BitVec.extractLsb'_toNat, Nat.shiftRight_zero, Nat.mod_eq_of_lt h]

/-! ### The answer of the decoder -/

theorem decode_reservedBits {w : Word} (h : 2 ^ 8 ≤ w.toNat) : decode w = .error .reservedBits :=
  if_pos (mt (rsvField_eq_zero_iff w).1 h.not_gt)

theorem decode_reservedOpcode {w : Word} (hlo : 8 ≤ w.toNat) (hhi : w.toNat < 2 ^ 8) :
    decode w = .error .reservedOpcode := by
  obtain ⟨n, hn⟩ := Nat.exists_eq_add_of_le' hlo
  rw [decode, if_neg (not_not.2 ((rsvField_eq_zero_iff w).2 hhi)), opcField_toNat hhi, hn]
  rfl

/-- Settles O1: one word per command. -/
theorem decodeOfEncode : Obligations.DecodeOfEncode
  | .nop => Laws.RoundTrip.nop
  | .capq => Laws.RoundTrip.capq
  | .chkfit => Laws.RoundTrip.chkfit
  | .chkfitt => Laws.RoundTrip.chkfitt
  | .ilv => Laws.RoundTrip.ilv
  | .ilvt => Laws.RoundTrip.ilvt
  | .dilv => Laws.RoundTrip.dilv
  | .dilvt => Laws.RoundTrip.dilvt

theorem Instr.wf_true (i : Instr) : i.wf = true := by cases i <;> rfl

theorem decode_encode (i : Instr) : decode (encode i) = .ok i := decodeOfEncode i i.wf_true

/-- Below 8 every word is a command's. -/
theorem exists_encode {w : Word} (h : w.toNat < 8) : ∃ i, w = encode i := by
  have commands : ∀ n < 8, ∃ i ∈ [Instr.nop, .capq, .chkfit, .chkfitt, .ilv, .ilvt, .dilv, .dilvt],
      n = (encode i).toNat := by decide
  obtain ⟨i, -, hi⟩ := commands w.toNat h
  exact ⟨i, BitVec.eq_of_toNat_eq hi⟩

/-- The decoding rule R94: the three ranges of words, and the answer on each. -/
theorem decode_cases (w : Word) :
    (2 ^ 8 ≤ w.toNat ∧ decode w = .error .reservedBits) ∨
      (8 ≤ w.toNat ∧ w.toNat < 2 ^ 8 ∧ decode w = .error .reservedOpcode) ∨
      (w.toNat < 8 ∧ ∃ i, w = encode i ∧ decode w = .ok i) := by
  by_cases hhi : 2 ^ 8 ≤ w.toNat
  · exact .inl ⟨hhi, decode_reservedBits hhi⟩
  by_cases hlo : 8 ≤ w.toNat
  · exact .inr (.inl ⟨hlo, not_le.1 hhi, decode_reservedOpcode hlo (not_le.1 hhi)⟩)
  · obtain ⟨i, rfl⟩ := exists_encode (not_le.1 hlo)
    exact .inr (.inr ⟨not_le.1 hlo, i, rfl, decode_encode i⟩)

theorem decode_reservedBits_iff (w : Word) : 2 ^ 8 ≤ w.toNat ↔ decode w = .error .reservedBits := by
  refine ⟨decode_reservedBits, fun h => ?_⟩
  rcases decode_cases w with ⟨hge, -⟩ | ⟨-, -, hd⟩ | ⟨-, i, -, hd⟩
  · exact hge
  · simp [hd] at h
  · simp [hd] at h

theorem decode_reservedOpcode_iff (w : Word) :
    8 ≤ w.toNat ∧ w.toNat < 2 ^ 8 ↔ decode w = .error .reservedOpcode := by
  refine ⟨fun ⟨hlo, hhi⟩ => decode_reservedOpcode hlo hhi, fun h => ?_⟩
  rcases decode_cases w with ⟨-, hd⟩ | ⟨hlo, hhi, -⟩ | ⟨-, i, -, hd⟩
  · simp [hd] at h
  · exact ⟨hlo, hhi⟩
  · simp [hd] at h

/-- A word stands for a command exactly when it is the command's one word (R91). -/
theorem decode_ok_iff (w : Word) (i : Instr) : decode w = .ok i ↔ w = encode i := by
  refine ⟨fun h => ?_, fun h => h ▸ decode_encode i⟩
  rcases decode_cases w with ⟨-, hd⟩ | ⟨-, -, hd⟩ | ⟨-, j, hw, hd⟩
  · simp [hd] at h
  · simp [hd] at h
  · obtain rfl : j = i := by simpa [hd] using h
    exact hw

/-- Settles O2: the ranges exclude each other, and each command's word is its encoding. -/
theorem decodingRule : Obligations.DecodingRule := fun w =>
  ⟨decode_reservedBits_iff w, decode_reservedOpcode_iff w, decode_ok_iff w .nop, decode_ok_iff w .capq,
    decode_ok_iff w .chkfit, decode_ok_iff w .chkfitt, decode_ok_iff w .ilv, decode_ok_iff w .ilvt,
    decode_ok_iff w .dilv, decode_ok_iff w .dilvt⟩

/-- Settles O3: the legal words are encodings, the illegal ones stand in their ranges. -/
theorem writtenWordsDecode : Obligations.WrittenWordsDecode :=
  ⟨decode_encode .nop, decode_encode .capq, decode_encode .chkfitt, decode_encode .ilv, decode_encode .dilvt,
    decode_reservedOpcode (by decide) (by decide), decode_reservedBits (by decide), decode_reservedBits (by decide)⟩

end Sys2Proof
end

section
/-! Which commands write which state (30_encoding.md R95): one lemma per piece of state, over what a command can do
before its completion. -/

namespace Sys2Proof.Machine

section
variable {i : Instr} {s u : State} (c : CommandBody i s u)
include c

theorem CommandBody.len_writer (h : u.len ≠ s.len) : i = .dilvt := by
  cases c with
  | nothing | capacity | report | interleaved | recovered | tagRead => exact absurd rfl h
  | framed _ hi => exact hi

theorem CommandBody.tagval_writer (h : u.tagval ≠ s.tagval) : i = .dilvt := by
  cases c with
  | nothing | capacity | report | interleaved | recovered => exact absurd rfl h
  | tagRead _ hi | framed _ hi => exact hi

theorem CommandBody.samples_writer (h : ¬s.SameSamples u) : i = .ilv ∨ i = .ilvt := by
  cases c with
  | nothing | capacity | report | recovered | tagRead | framed => exact absurd (fun _ => rfl) h
  | interleaved _ hi => exact hi

theorem CommandBody.payload_writer (h : ¬s.SamePayload u) : i = .dilv ∨ i = .dilvt := by
  cases c with
  | nothing | capacity | report | interleaved | tagRead => exact absurd (fun _ => rfl) h
  | recovered _ hi => exact .inl hi
  | framed _ hi => exact .inr hi

theorem CommandBody.report_writer (h : ¬s.SameReport u) : i = .chkfit ∨ i = .chkfitt ∨ i = .ilv ∨ i = .ilvt := by
  cases c with
  | nothing | capacity | recovered | tagRead | framed => exact absurd ⟨rfl, rfl, rfl⟩ h
  | report _ hi => exact hi
  | interleaved _ hi => exact .inr (.inr hi)

theorem CommandBody.capacity_writer (h : ¬s.SameCapacity u) : i ≠ .nop ∧ i ≠ .dilv := by
  cases c with
  | nothing | recovered => exact absurd ⟨rfl, rfl, rfl⟩ h
  | capacity _ hi | interleaved _ hi => rcases hi with rfl | rfl <;> decide
  | report _ hi => rcases hi with rfl | rfl | rfl | rfl <;> decide
  | tagRead _ hi | framed _ hi => subst hi; decide

end

theorem State.SameReport.finish {s u : State} (h : s.SameReport u) (e : ErrorCode) : s.SameReport (u.finish e) :=
  { h with }

theorem State.SameCapacity.finish {s u : State} (h : s.SameCapacity u) (e : ErrorCode) :
    s.SameCapacity (u.finish e) := { h with }

/-- Settles O32: a command is a body with its writers, and a completion that writes STATUS alone. -/
theorem writersOfEachState : Obligations.WritersOfEachState := by
  intro i s t h
  obtain ⟨e, u, heq, hbody, -⟩ := exec_cases i s
  obtain rfl : u.finish e = t := by simpa [heq] using h
  exact ⟨hbody.len_writer, hbody.tagval_writer, hbody.samples_writer, hbody.payload_writer,
    fun hr => hbody.report_writer (mt (·.finish e) hr), fun hc => hbody.capacity_writer (mt (·.finish e) hc)⟩

end Sys2Proof.Machine
end

section
/-! What the capacity validator's commands depend on (30_encoding.md R95, 41_capacity.md R148 to R150). -/

namespace Sys2Proof.Machine

/-! ### The common checks -/

theorem precheck_code {i : Instr} {s : State} {e : ErrorCode} (h : precheck i s = some e) :
    e = .unsupportedBitDepth ∨ e = .invalidK ∨ e = .range := by
  unfold precheck at h
  split_ifs at h <;> cases h <;> decide

/-- A command that begins with the common checks ends with the error they find (60_exceptions.md R210). -/
theorem exec_precheck_some {i : Instr} (hi : i ≠ .nop) {s : State} {e : ErrorCode} (h : precheck i s = some e) :
    exec i s = .next (s.finish e) := by
  have failed (body : State → State) : afterPrecheck i s body = s.finish e := by simp [afterPrecheck, h]
  cases i with
  | nop => exact absurd rfl hi
  | capq | chkfit | chkfitt | ilv | ilvt | dilv | dilvt => exact congrArg _ (failed _)

section
variable {s s' : State}

/-! ### The completions, with the code chosen last -/

theorem execChkfit_end (l : LegalStart .chkfit s) :
    exec .chkfit s = .next ((chkfitRegs s).finish
      (if fitCap s.payloadLen 0 s.capSamples s.numLsb then .noError else .capacityExceeded)) := by
  rw [execChkfit_legal l, apply_ite (chkfitRegs s).finish]

theorem execChkfitt_end (l : LegalStart .chkfitt s) :
    exec .chkfitt s = .next ((chkfittRegs s).finish
      (if fitCap s.payloadLen s.tagWidth s.capSamples s.numLsb then .noError else .capacityExceeded)) := by
  rw [execChkfitt_legal l, apply_ite (chkfittRegs s).finish]

/-! ### Two states that agree on the operands -/

/-- The two states agree on DEPTH, K and CAPN, the operands of all three commands. -/
structure State.SameCarrier (s s' : State) : Prop where
  depth : s.cfg.depth = s'.cfg.depth
  k : s.cfg.k = s'.cfg.k
  capn : s.capn = s'.capn

section
variable (h : s.SameCarrier s')
include h

theorem State.SameCarrier.numLsb : s.numLsb = s'.numLsb := congrArg BitVec.toNat h.k

theorem State.SameCarrier.width : s.width = s'.width := congrArg (8 * BitVec.toNat ·) h.depth

theorem State.SameCarrier.capSamples : s.capSamples = s'.capSamples := congrArg BitVec.toNat h.capn

theorem State.SameCarrier.tagWidth : s.tagWidth = s'.tagWidth := by
  rw [← tagwOf_eq, ← tagwOf_eq, h.capSamples, h.numLsb]

/-- Without the sample RAM the checks read DEPTH and K alone. -/
theorem State.SameCarrier.precheck {i : Instr} (hi : readsSamples i = false) : precheck i s = precheck i s' := by
  simp [Machine.precheck, hi, h.numLsb, h.width, h.depth]

end

/-! ### Two ends that agree -/

/-- The two ends have the same code and, but for a failed common check, the same recorded registers. -/
def SameVerdict (i : Instr) (t t' : State) : Prop :=
  t.ecode = t'.ecode ∧
  (t.ecode = .noError ∨ t.ecode = .capacityExceeded → t'.SameCapacity t ∧ (i ≠ .capq → t'.SameReport t))

theorem sameVerdict_precheck {i : Instr} {e : ErrorCode} (h : precheck i s = some e) :
    SameVerdict i (s.finish e) (s'.finish e) := by
  refine ⟨rfl, fun he => ?_⟩
  rcases precheck_code h with rfl | rfl | rfl <;> simp at he

theorem sameVerdict_capOut (n k : Nat) (e : ErrorCode) :
    SameVerdict .capq ((s.capOut n k).finish e) ((s'.capOut n k).finish e) :=
  ⟨rfl, fun _ => ⟨⟨rfl, rfl, rfl⟩, fun hi => absurd rfl hi⟩⟩

/-- What is recorded depends on the state through LEN alone, once the capacity and the report are given. -/
theorem sameVerdict_recordFit (hlen : s.len = s'.len) (i : Instr) (n k pay least : Nat) (e : ErrorCode) :
    SameVerdict i (((s.capOut n k).recordFit pay least).finish e) (((s'.capOut n k).recordFit pay least).finish e) :=
  ⟨rfl, fun _ => ⟨⟨rfl, rfl, rfl⟩, fun _ => ⟨hlen, rfl, rfl⟩⟩⟩

theorem chkfit_sameVerdict (h : s.SameCarrier s') (hlen : s.len = s'.len) :
    SameVerdict .chkfit
      ((chkfitRegs s).finish (if fitCap s.payloadLen 0 s.capSamples s.numLsb then .noError else .capacityExceeded))
      ((chkfitRegs s').finish
        (if fitCap s'.payloadLen 0 s'.capSamples s'.numLsb then .noError else .capacityExceeded)) := by
  have hL : s.payloadLen = s'.payloadLen := congrArg BitVec.toNat hlen
  simp only [chkfitRegs, h.numLsb, h.width, h.capSamples, hL]
  exact sameVerdict_recordFit hlen _ _ _ _ _ _

theorem chkfitt_sameVerdict (h : s.SameCarrier s') (hlen : s.len = s'.len) :
    SameVerdict .chkfitt
      ((chkfittRegs s).finish
        (if fitCap s.payloadLen s.tagWidth s.capSamples s.numLsb then .noError else .capacityExceeded))
      ((chkfittRegs s').finish
        (if fitCap s'.payloadLen s'.tagWidth s'.capSamples s'.numLsb then .noError else .capacityExceeded)) := by
  have hL : s.payloadLen = s'.payloadLen := congrArg BitVec.toNat hlen
  simp only [chkfittRegs, h.numLsb, h.width, h.capSamples, h.tagWidth, hL]
  exact sameVerdict_recordFit hlen _ _ _ _ _ _

/-- Two runs of a capacity command on the same operands end alike, whatever the common checks find. -/
theorem exec_sameVerdict {i : Instr} (hi : i ∈ [Instr.capq, .chkfit, .chkfitt]) (h : s.SameCarrier s')
    (hlen : i = .capq ∨ s.len = s'.len) :
    ∃ t t', exec i s = .next t ∧ exec i s' = .next t' ∧ SameVerdict i t t' := by
  have capacity : ∀ j ∈ [Instr.capq, .chkfit, .chkfitt], readsSamples j = false ∧ j ≠ .nop := by decide
  obtain ⟨noSamples, notNop⟩ := capacity i hi
  have checks := h.precheck noSamples
  cases hp : precheck i s with
  | some e =>
    exact ⟨_, _, exec_precheck_some notNop hp, exec_precheck_some notNop (checks ▸ hp), sameVerdict_precheck hp⟩
  | none =>
    have l := (precheck_none_iff i s).1 hp
    have l' := (precheck_none_iff i s').1 (checks ▸ hp)
    simp only [List.mem_cons, List.not_mem_nil, or_false] at hi
    rcases hi with rfl | rfl | rfl
    · refine ⟨_, _, execCapq_legal l, execCapq_legal l', ?_⟩
      rw [h.capSamples, h.numLsb]
      exact sameVerdict_capOut _ _ _
    · exact ⟨_, _, execChkfit_end l, execChkfit_end l', chkfit_sameVerdict h (hlen.resolve_left nofun)⟩
    · exact ⟨_, _, execChkfitt_end l, execChkfitt_end l', chkfitt_sameVerdict h (hlen.resolve_left nofun)⟩

end

/-- Settles O59: the two runs end alike, and the ends are the states named. -/
theorem capacityCommandsReadNothingElse : Obligations.CapacityCommandsReadNothingElse := by
  intro i s s' t t' hi hdepth hk hcapn hlen ht ht'
  obtain ⟨u, u', hu, hu', code, recorded⟩ := exec_sameVerdict hi ⟨hdepth, hk, hcapn⟩ hlen
  obtain rfl : u = t := by simpa [hu] using ht
  obtain rfl : u' = t' := by simpa [hu'] using ht'
  refine ⟨code, fun he => ?_⟩
  obtain ⟨⟨hbits, htag, hbytes⟩, hreport⟩ := recorded he
  refine ⟨hbits, htag, hbytes, fun hc => ?_⟩
  obtain ⟨hreq, hpay, hmink⟩ := hreport hc
  exact ⟨hreq, hpay, hmink⟩

end Sys2Proof.Machine
end

section
/-! The bit codec (40_bit_codec.md): the round trips of its streams, what a packed entry depends on, and the two
directions as what they do to the state, whatever command runs them. -/

namespace Sys2Proof.Machine

/-! ### Bytes and their bits -/

theorem bitsOf_getD_lane (B : List Byte) {j b : Nat} (hj : j < B.length) (hb : b < 8) :
    (bitsOf B).getD (8 * j + b) false = (B.getD j 0#8).getLsbD (7 - b) := by
  rw [bitsOf_getD, if_pos (by omega), show (8 * j + b) / 8 = j by omega, show (8 * j + b) % 8 = b by omega]

/-- The eight bits taken from a byte make that byte again. -/
theorem byteAt_bitsOf (B : List Byte) {j : Nat} (hj : j < B.length) : byteAt (bitsOf B) (8 * j) = B.getD j 0#8 :=
  byte_ext fun b hb => by rw [byteAt_getLsbD _ _ hb, bitsOf_getD_lane B hj hb]

/-! ### Pack and unpack -/

/-- The chunk of sample s is read from k bits of the stream (40_bit_codec.md R119). -/
theorem chunk_slice (b : List Bool) (k s : Nat) : chunk b k s = chunk ((b.drop (s * k)).take k) k 0 := by
  apply BitVec.eq_of_getLsbD_eq
  intro i _
  rw [chunk_getLsbD, chunk_getLsbD]
  by_cases hi : i < k
  · have hlt : k - 1 - i < k := by omega
    simp [List.getD, hlt]
  · simp [hi]

theorem lt_numChunks_slice {b : List Bool} {k i : Nat} (hk : 1 ≤ k) :
    i < numChunks b.length k ↔ (b.drop (i * k)).take k ≠ [] := by
  rw [lt_numChunks hk, ← List.length_pos_iff, List.length_take, List.length_drop]
  omega

/-- Stream bit q stands in packed entry q / k, q % k places below the top of its low k bits (R112, R113). -/
theorem pack_getLsbD (S : List Sample) {b : List Bool} {k q : Nat} (hk : 1 ≤ k) (hk16 : k ≤ 16)
    (hS : numChunks b.length k ≤ S.length) (hq : q < b.length) :
    ((pack S b k).getD (q / k) 0#16).getLsbD (k - 1 - q % k) = b.getD q false := by
  have hmod : q % k < k := Nat.mod_lt q hk
  have hchunk : q / k < numChunks b.length k := (lt_numChunks hk).2 (Nat.lt_of_le_of_lt (Nat.div_mul_le_self q k) hq)
  have hindex : q / k * k + (k - 1 - (k - 1 - q % k)) = q := by
    rw [show k - 1 - (k - 1 - q % k) = q % k by omega, Nat.div_add_mod']
  rw [pack_getD _ _ _ (by omega), if_pos hchunk, replaceLow_getLsbD, if_pos (by omega), hindex,
    decide_eq_true (by omega), Bool.true_and]

/-! ### Interleaving -/

section
variable {s t : State}

/-- An interleave of bytes that fit the samples present (R112, R114, R115). -/
theorem State.interleave_interleaved (s : State) (B : List Byte) (hk : 1 ≤ s.numLsb) (hk16 : s.numLsb ≤ 16)
    (hfit : 8 * B.length ≤ s.numSamples * s.numLsb) :
    s.Interleaved (s.interleave (bitsOf B)) B s.numLsb s.numSamples := by
  have entry := s.interleave_sample (bitsOf B) hk (by rwa [bitsOf_length])
  rw [bitsOf_length] at entry
  refine ⟨fun i b _ hb hi => ?_, fun i b hb => ?_, fun i hi => ?_⟩
  · rw [entry, if_pos hi, replaceLow_getLsbD, if_pos (by omega), decide_eq_true (by omega), Bool.true_and,
      show s.numLsb - 1 - (s.numLsb - 1 - b) = b by omega, bitsOf_getD]
    rfl
  · rw [entry]
    split
    · rw [replaceLow_getLsbD, if_neg (by omega)]
    · rfl
  · rcases hi with hi | hi
    · exact s.interleave_sample_beyond hk (by rwa [bitsOf_length]) hi
    · rw [entry, if_neg (by omega)]

/-- The stream bits stand where `unpack` reads them (R113). -/
theorem State.Interleaved.getLsbD {B : List Byte} {k N q : Nat} (h : s.Interleaved t B k N) (hk : 1 ≤ k)
    (hfit : 8 * B.length ≤ N * k) (hq : q < 8 * B.length) :
    (t.sample (q / k)).getLsbD (k - 1 - q % k) = streamBit B q := by
  have hentry : q / k < N := Nat.div_lt_of_lt_mul (by rw [Nat.mul_comm k]; omega)
  have hreached : q / k * k < 8 * B.length := Nat.lt_of_le_of_lt (Nat.div_mul_le_self q k) hq
  rw [h.packed _ _ hentry (Nat.mod_lt q hk) hreached, Nat.div_add_mod', if_pos hq]

/-! ### Deinterleaving -/

/-- What a deinterleave recovers into PRAM (R117). -/
theorem State.storePayload_recovered (s : State) {n : Nat} (hfit : n ≤ s.numSamples * s.numLsb) :
    s.Recovered (s.storePayload (s.deinterleave n)) 0 (n / 8) s.numLsb := by
  have byte := s.storePayload_payloadByte (s.deinterleave n)
  rw [s.deinterleave_length] at byte
  refine ⟨fun j b hj hb => ?_, fun j hj => ?_⟩
  · rw [byte, if_pos hj, s.deinterleave_getLsbD hj hb hfit, Nat.zero_add]
  · rw [byte, if_neg (by omega)]

/-- Bytes recovered from samples that hold the interleaved bytes B are those of B, from byte m on (R118). -/
theorem State.Recovered.payloadByte_eq {u v : State} {B : List Byte} {k N m n j : Nat}
    (hrec : u.Recovered v (8 * m) n k) (hint : s.Interleaved t B k N) (hsame : ∀ i, i < N → u.sample i = t.sample i)
    (hk : 1 ≤ k) (hfit : 8 * B.length ≤ N * k) (hlen : m + n ≤ B.length) (hj : j < n) :
    v.payloadByte j = B.getD (m + j) 0#8 := by
  refine byte_ext fun b hb => ?_
  have hq : 8 * m + 8 * j + b < 8 * B.length := by omega
  have hentry : (8 * m + 8 * j + b) / k < N := Nat.div_lt_of_lt_mul (by rw [Nat.mul_comm k]; omega)
  rw [hrec.bytes j b hj hb, hsame _ hentry, hint.getLsbD hk hfit hq, streamBit,
    show (8 * m + 8 * j + b) / 8 = m + j by omega, show (8 * m + 8 * j + b) % 8 = b by omega]

/-! ### What ILV and ILVT report -/

/-- MINK over both bounds (41_capacity.md R147). -/
theorem minkAll_least (L : Nat) (tagged : Bool) (n N W : Nat) :
    LeastOrZero W (fun k => fitsAt L tagged n n k ∧ fitsAt L tagged n N k) (minkAll L tagged n N W) := by
  have h := leastK_spec W fun k => decide (fitCap L (twAt tagged n k) n k ∧ fitCarrier L (twAt tagged n k) N k)
  simp only [decide_eq_true_eq] at h
  exact h

/-- The registers ILV and ILVT leave, whatever the outcome, for a tag of tw bytes. -/
def interleaveRegs (tagged : Bool) (tw : Nat) (s : State) : State :=
  (s.capOut s.capSamples s.numLsb).recordFit (maxpayAll tw s.capSamples s.numSamples s.numLsb)
    (minkAll s.payloadLen tagged s.capSamples s.numSamples s.width)

theorem ilvRegs_eq (s : State) : ilvRegs s = interleaveRegs false 0 s := rfl

theorem ilvtRegs_eq (s : State) : ilvtRegs s = interleaveRegs true s.tagWidth s := rfl

/-- t holds the report of ILV or ILVT on s for a tag of tw bytes, and all but SRAM and STATUS is otherwise that of s
(40_bit_codec.md R116, 42_framed.md R172). -/
structure State.InterleaveReported (tagged : Bool) (tw : Nat) (s t : State) : Prop where
  capacity : s.CapacityRecorded t
  req : t.req = s.len
  maxpay : t.maxpay.toNat = min s.capn.toNat s.nsamp.toNat * s.cfg.k.toNat / 8 - tw
  mink : LeastOrZero (8 * s.cfg.depth.toNat)
    (fun k => fitsAt s.len.toNat tagged s.capn.toNat s.capn.toNat k ∧
      fitsAt s.len.toNat tagged s.capn.toNat s.nsamp.toNat k) t.mink.toNat
  inputs : s.SameInputs t
  len : t.len = s.len
  tagval : t.tagval = s.tagval
  payload : s.SamePayload t

theorem State.InterleaveReported.finish {tagged : Bool} {tw : Nat} (h : s.InterleaveReported tagged tw t)
    (e : ErrorCode) : s.InterleaveReported tagged tw (t.finish e) := { h with
  capacity := { h.capacity with }
  inputs := h.inputs.finish e }

theorem State.InterleaveReported.interleave {tagged : Bool} {tw : Nat} (h : s.InterleaveReported tagged tw t)
    (b : List Bool) : s.InterleaveReported tagged tw (t.interleave b) := { h with
  capacity := { h.capacity with }
  inputs := h.inputs.interleave b }

/-- The reported values fit their registers (41_capacity.md R153). -/
theorem interleaveRegs_reported {i : Instr} (l : LegalStart i s) (tagged : Bool) (tw : Nat) :
    s.InterleaveReported tagged tw (interleaveRegs tagged tw s) where
  capacity := { capOut_recorded s l.k_le with }
  req := rfl
  maxpay := by
    have hpay := maxpayAll_le tw s.capSamples s.numSamples s.numLsb
    have hbytes : capbytesOf s.capSamples s.numLsb ≤ (2 ^ 28 - 1) * 16 / 8 :=
      Nat.div_le_div_right (mul_k_le s.capn l.k_le)
    exact Nat.mod_eq_of_lt (by omega)
  mink := by
    have hleast : minkAll s.payloadLen tagged s.capSamples s.numSamples s.width ≤ s.width := leastK_le _ _
    have hwidth := l.width_le
    have hreg : (interleaveRegs tagged tw s).mink.toNat =
        minkAll s.payloadLen tagged s.capSamples s.numSamples s.width := Nat.mod_eq_of_lt (by omega)
    rw [hreg]
    exact minkAll_least _ _ _ _ _
  inputs := ((State.SameInputs.refl s).capOut _ _).recordFit _ _
  len := rfl
  tagval := rfl
  payload := fun _ => rfl

/-- The report leaves the samples as they are, so an interleave after it starts from those of s (R116). -/
theorem interleaveRegs_interleaved {i : Instr} (l : LegalStart i s) (tagged : Bool) (tw : Nat) {B : List Byte}
    (hfit : 8 * B.length ≤ s.numSamples * s.numLsb) :
    s.Interleaved ((interleaveRegs tagged tw s).interleave (bitsOf B)) B s.numLsb s.numSamples :=
  { (interleaveRegs tagged tw s).interleave_interleaved B l.kPos l.k_le hfit with }

theorem State.Interleaved.finish {B : List Byte} {k N : Nat} (h : s.Interleaved t B k N) (e : ErrorCode) :
    s.Interleaved (t.finish e) B k N := { h with }

theorem State.Recovered.finish {start n k : Nat} (h : s.Recovered t start n k) (e : ErrorCode) :
    s.Recovered (t.finish e) start n k := { h with }

/-! ### How a success is had -/

theorem State.finish_ended (s : State) (e : ErrorCode) : (s.finish e).Ended e := ⟨rfl, rfl, rfl⟩

/-- A command with common checks that ends with NONE has passed them (60_exceptions.md R210). -/
theorem legalStart_of_noError {i : Instr} (hi : i ≠ .nop) (h : exec i s = .next t) (ht : t.ecode = .noError) :
    LegalStart i s := by
  refine (precheck_none_iff i s).1 (Option.eq_none_iff_forall_ne_some.2 fun e he => ?_)
  obtain rfl : s.finish e = t := by simpa [exec_precheck_some hi he] using h
  obtain rfl : e = .noError := ht
  rcases precheck_code he with h | h | h <;> cases h

/-- ILV succeeds only where both bounds hold (40_bit_codec.md R116). -/
theorem ilv_fits_of_noError (l : LegalStart .ilv s) (h : exec .ilv s = .next t) (ht : t.ecode = .noError) :
    fitCap s.payloadLen 0 s.capSamples s.numLsb ∧ fitCarrier s.payloadLen 0 s.numSamples s.numLsb := by
  by_contra hfit
  rw [execIlv_legal l, if_neg hfit] at h
  obtain rfl : (ilvRegs s).finish .capacityExceeded = t := by simpa using h
  cases ht

end

end Sys2Proof.Machine
end

section
/-! The raw codec commands ILV and DILV (40_bit_codec.md R116 to R119), and the failure ILV shares with ILVT. -/

namespace Sys2Proof.Machine

/-- Settles O38: with a bound failing, both commands end with the report alone. -/
theorem interleaveCapacityExceeded : Obligations.InterleaveCapacityExceeded := by
  intro i tagged tw s hi l hover
  have hexceeded : ¬(fitCap s.payloadLen tw s.capSamples s.numLsb ∧
      fitCarrier s.payloadLen tw s.numSamples s.numLsb) :=
    fun ⟨hcap, hcarrier⟩ => hover.elim hcap.not_gt hcarrier.not_gt
  have hexec : exec i s = .next ((interleaveRegs tagged tw s).finish .capacityExceeded) := by
    rcases hi with ⟨rfl, rfl, rfl⟩ | ⟨rfl, rfl, rfl⟩
    · rw [execIlv_legal l, if_neg hexceeded, ilvRegs_eq]
    · rw [execIlvt_legal l, if_neg hexceeded, ilvtRegs_eq]
  obtain ⟨capacity, req, maxpay, mink, inputs, len, tagval, payload⟩ :=
    (interleaveRegs_reported l tagged tw).finish .capacityExceeded
  exact ⟨_, hexec, State.finish_ended _ _, capacity, req, maxpay, mink, inputs, len, tagval, fun _ => rfl, payload⟩

/-- Settles O44: byte j is made of the bits byte j gave. -/
theorem bytesOfBits : Obligations.BytesOfBits := by
  intro B
  have hlength : (bytesOf (bitsOf B)).length = B.length := by simp
  refine List.ext_getElem hlength fun j hj hjB => ?_
  rw [List.getElem_eq_getD 0#8, List.getElem_eq_getD 0#8, bytesOf_getD _ (by simpa using hj), byteAt_bitsOf B hjB]

/-- Settles O45: whether an entry receives a chunk, and which, is read from its own slice of the stream. -/
theorem samplesIndependent : Obligations.SamplesIndependent := by
  refine ⟨fun S S' b b' k i hk hi hi' hentry hslice => ?_, fun S S' n k q hq hentry => ?_⟩
  · simp only [pack_getD _ _ _ hi, pack_getD _ _ _ hi', lt_numChunks_slice hk, chunk_slice _ k i, hentry, hslice]
  · rw [unpack_getD _ _ _ hq, unpack_getD _ _ _ hq, hentry]

/-- Settles O46: both bounds hold, so the interleave runs after the report. -/
theorem ilvResult : Obligations.IlvResult := by
  intro s l hcap hcarrier
  have hexec : exec .ilv s =
      .next (((interleaveRegs false 0 s).interleave (bitsOf (s.payload s.payloadLen))).finish .noError) := by
    rw [execIlv_legal l, if_pos ⟨hcap, hcarrier⟩, ilvRegs_eq]
  have hfit : 8 * (s.payload s.payloadLen).length ≤ s.numSamples * s.numLsb := by rwa [State.payload_length]
  obtain ⟨capacity, req, maxpay, mink, inputs, len, tagval, payload⟩ :=
    ((interleaveRegs_reported l false 0).interleave (bitsOf (s.payload s.payloadLen))).finish .noError
  exact ⟨_, hexec, State.finish_ended _ _, capacity, req, maxpay, mink,
    (interleaveRegs_interleaved l false 0 hfit).finish .noError, inputs, len, tagval, payload⟩

/-- Settles O47: with both checks passed, the recovered bytes are stored and nothing else is written. -/
theorem dilvResult : Obligations.DilvResult := by
  intro s l (hlength : s.numBits % 8 = 0) (hcarrier : s.numBits ≤ s.numSamples * s.numLsb)
  have hexec : exec .dilv s = .next ((s.storePayload (s.deinterleave s.numBits)).finish .noError) := by
    rw [execDilv_legal l, if_neg (not_not.2 hlength), if_neg (Nat.not_lt.2 hcarrier)]
  exact ⟨_, hexec, State.finish_ended _ _, (s.storePayload_recovered hcarrier).finish .noError,
    ((State.SameInputs.refl s).storePayload _).finish .noError, ⟨rfl, rfl, rfl⟩, ⟨rfl, rfl, rfl⟩, rfl, rfl,
    fun _ => rfl⟩

/-- Settles O48: the two checks in their order, before any write. -/
theorem dilvErrors : Obligations.DilvErrors := by
  intro s l
  refine ⟨fun (hlength : s.numBits % 8 ≠ 0) => ?_,
    fun (hlength : s.numBits % 8 = 0) (hcarrier : s.numSamples * s.numLsb < s.numBits) => ?_⟩
  · rw [execDilv_legal l, if_pos hlength]
    rfl
  · rw [execDilv_legal l, if_neg (not_not.2 hlength), if_pos hcarrier]
    rfl

/-- Settles O49: each stream bit is read where it was put; the ILV that succeeded is that of O46, and its bounds are
those the DILV of O47 asks for. -/
theorem ilvDilvRoundTrip : Obligations.IlvDilvRoundTrip := by
  refine ⟨fun S b k hk hk16 hS => ?_, fun s t u hilv ht lu hcfg hnsamp hnbits hsame => ?_⟩
  · refine List.ext_getElem (unpack_length _ _ _) fun q _ hq => ?_
    rw [List.getElem_eq_getD false, List.getElem_eq_getD false, unpack_getD _ _ _ hq, pack_getLsbD S hk hk16 hS hq]
  · have l := legalStart_of_noError (i := .ilv) nofun hilv ht
    obtain ⟨hcap, hcarrier⟩ := ilv_fits_of_noError l hilv ht
    obtain ⟨t', hilv', -, -, -, -, -, hint, -⟩ := ilvResult s l hcap hcarrier
    obtain rfl : t' = t := by simpa [hilv'] using hilv
    have hbits : u.nbits.toNat ≤ u.nsamp.toNat * u.cfg.k.toNat := by rw [hnbits, hnsamp, hcfg]; exact hcarrier
    obtain ⟨v, hdilv, hended, hrec, -⟩ := dilvResult u lu (by omega) hbits
    refine ⟨v, hdilv, hended, fun j hj => ?_⟩
    rw [hnbits, hcfg, Nat.mul_div_cancel_left _ (by decide)] at hrec
    have hbyte := State.Recovered.payloadByte_eq (m := 0) hrec hint hsame l.kPos
      (by rw [State.payload_length]; exact hcarrier) (by simp) hj
    rw [hbyte, Nat.zero_add, State.payload_getD _ hj]

end Sys2Proof.Machine
end

section
/-! The capacity functions (41_capacity.md R140 to R147, R152, R154): the tag width as the least byte count that holds
n × k, the report functions as what the fit tests admit. -/

namespace Sys2Proof.Machine

/-! ### The tag width -/

theorem bitLength_le_iff {m b : Nat} : bitLength m ≤ b ↔ m < 2 ^ b :=
  ⟨fun h => (lt_two_pow_bitLength m).trans_le (Nat.pow_le_pow_right (by decide) h), bitLength_le⟩

/-- The tag width is the least number of bytes that can hold n × k (R142). -/
theorem tagwOf_le_iff {n k j : Nat} : tagwOf n k ≤ j ↔ n * k < 2 ^ (8 * j) := by
  rw [← bitLength_le_iff]
  unfold tagwOf maxbitsOf
  omega

theorem mul_lt_two_pow_tagwOf (n k : Nat) : n * k < 2 ^ (8 * tagwOf n k) := tagwOf_le_iff.1 le_rfl

/-- A product of exactly j + 1 bytes has a tag of that width (R142). -/
theorem tagwOf_eq_succ {n k j : Nat} (hlo : 2 ^ (8 * j) ≤ n * k) (hhi : n * k < 2 ^ (8 * (j + 1))) :
    tagwOf n k = j + 1 :=
  le_antisymm (tagwOf_le_iff.2 hhi) (Nat.succ_le_of_lt (not_le.1 (mt tagwOf_le_iff.1 hlo.not_gt)))

/-- Settles O41: each range is the products of one byte count. -/
theorem tagWidthRanges : Obligations.TagWidthRanges := fun n k =>
  ⟨rfl,
    fun h => Nat.le_zero.1 (tagwOf_le_iff.2 (by omega)),
    fun hlo hhi => tagwOf_eq_succ (j := 0) (by omega) (by omega),
    fun hlo hhi => tagwOf_eq_succ (j := 1) (by omega) (by omega),
    fun hlo hhi => tagwOf_eq_succ (j := 2) (by omega) (by omega),
    fun hlo hhi => tagwOf_eq_succ (j := 3) (by omega) (by omega)⟩

/-- Settles O42: all three follow n × k, which is monotone in both arguments. -/
theorem capacityMonotone : Obligations.CapacityMonotone := by
  intro n n' k k' hn hk
  have hbits : n * k ≤ n' * k' := Nat.mul_le_mul hn hk
  exact ⟨tagwOf_le_iff.2 (hbits.trans_lt (mul_lt_two_pow_tagwOf n' k')), hbits, Nat.div_le_div_right hbits⟩

/-- Settles O43: the length is at most n × k, which the tag's bytes can hold. -/
theorem tagNeverOverflows : Obligations.TagNeverOverflows := by
  intro L n k (hfit : 8 * (L + tagwOf n k) ≤ n * k)
  have htag := mul_lt_two_pow_tagwOf n k
  omega

/-! ### MAXPAY -/

/-- Over m bits with room for the tag, the lengths that fit are those up to the reported one (R146). -/
theorem fits_iff_le_sub {L tw m : Nat} (htag : 8 * tw ≤ m) : 8 * (L + tw) ≤ m ↔ L ≤ m / 8 - tw := by omega

/-- Over m bits too few for the tag alone no length fits (R146). -/
theorem not_fits_and_sub_eq_zero {L tw m : Nat} (htag : m < 8 * tw) :
    ¬8 * (L + tw) ≤ m ∧ m / 8 - tw = 0 := by
  omega

/-- Both bounds together are the one bound over the smaller sample count (R146). -/
theorem fitCap_and_fitCarrier_iff {L tw n N k : Nat} :
    fitCap L tw n k ∧ fitCarrier L tw N k ↔ 8 * (L + tw) ≤ min n N * k := by
  rw [← Nat.mul_min_mul_right, le_min_iff]
  rfl

/-- Settles O39: the first form is a bound over n × k bits, the second over min(n, N) × k. -/
theorem maxpayIsLargest : Obligations.MaxpayIsLargest := by
  intro L tw n N k
  rw [fitCap_and_fitCarrier_iff]
  exact ⟨fits_iff_le_sub, not_fits_and_sub_eq_zero, fits_iff_le_sub, not_fits_and_sub_eq_zero⟩

/-! ### MINK -/

/-- MINK over the capacity bound (R147). -/
theorem minkCap_least (L : Nat) (tagged : Bool) (n W : Nat) :
    LeastOrZero W (fitsAt L tagged n n) (minkCap L tagged n W) := by
  have h := leastK_spec W fun k => decide (fitCap L (twAt tagged n k) n k)
  simp only [decide_eq_true_eq] at h
  exact h

/-- Where the property begins at m, the smallest k' in 1..W with it is m, if m is in the range (R147). -/
theorem LeastOrZero.eq_threshold {W m v : Nat} {p : Nat → Prop} (h : LeastOrZero W p v) (hm : 1 ≤ m)
    (hp : ∀ k, 1 ≤ k → k ≤ W → (p k ↔ m ≤ k)) : v = if m ≤ W then m else 0 := by
  rcases h with ⟨hpos, hle, hpv, hleast⟩ | ⟨rfl, hnone⟩
  · have hmv : m ≤ v := (hp v hpos hle).1 hpv
    have hvm : v ≤ m := not_lt.1 fun hlt => hleast m hm hlt ((hp m hm (hmv.trans hle)).2 le_rfl)
    rw [if_pos (hmv.trans hle), le_antisymm hvm hmv]
  · rw [if_neg fun hmW => hnone m hm hmW ((hp m hm hmW).2 le_rfl)]

/-- With no tag and some sample, a payload fits from ceil(8L / n) bits per sample on (R147). -/
theorem fitsAt_raw_iff {L n k : Nat} (hn : 1 ≤ n) : fitsAt L false n n k ↔ (8 * L + n - 1) / n ≤ k := by
  change 8 * L ≤ n * k ↔ _
  rw [Nat.div_le_iff_le_mul_add_pred hn]
  omega

/-- With no sample only the empty payload fits. -/
theorem fitsAt_raw_zero_iff {L k : Nat} : fitsAt L false 0 0 k ↔ L = 0 := by
  simp [fitsAt]

/-- Settles O40: MINK is found by the search for the least k', and the raw test begins to pass at a known k'. -/
theorem minkIsLeast : Obligations.MinkIsLeast := by
  refine ⟨fun L n N W tagged => ⟨minkCap_least L tagged n W, minkAll_least L tagged n N W⟩,
    fun L n W hn => ?_, fun L W hW => ?_⟩
  · refine (minkCap_least L false n W).eq_threshold (le_max_left _ _) fun k hk _ => ?_
    rw [fitsAt_raw_iff hn, max_le_iff, and_iff_right hk]
  · have least := minkCap_least L false 0 W
    by_cases hL : L = 0
    · rw [least.eq_threshold (m := 1) le_rfl fun _ hk _ => fitsAt_raw_zero_iff.trans (iff_of_true hL hk),
        if_pos hW, if_pos hL]
    · rw [least.eq_threshold (m := W + 1) (by omega) fun _ _ hk =>
          fitsAt_raw_zero_iff.trans (iff_of_false hL (by omega)),
        if_neg (by omega), if_neg hL]

end Sys2Proof.Machine
end

section
/-! The capacity validator's commands CAPQ, CHKFIT and CHKFITT (41_capacity.md R148 to R150). -/

namespace Sys2Proof.Machine

/-- Settles O34: the three capacity registers are all CAPQ writes before it completes. -/
theorem capqResult : Obligations.CapqResult := fun s l =>
  ⟨_, execCapq_legal l, State.finish_ended _ _, { capOut_recorded s l.k_le with },
    ((State.SameInputs.refl s).capOut _ _).finish _, ⟨rfl, rfl, rfl⟩, rfl, rfl, fun _ => rfl, fun _ => rfl⟩

section
variable {i : Instr} {tagged : Bool} {tw : Nat} {s : State}

/-- i is the fit test with no tag, or the one with the tag (R149, R150). -/
def IsFitTest (i : Instr) (tagged : Bool) (tw : Nat) (s : State) : Prop :=
  i = .chkfit ∧ tagged = false ∧ tw = 0 ∨ i = .chkfitt ∧ tagged = true ∧ tw = s.tagWidth

/-- The registers CHKFIT and CHKFITT leave, whatever the outcome, for a tag of tw bytes. -/
def fitTestRegs (tagged : Bool) (tw : Nat) (s : State) : State :=
  (s.capOut s.capSamples s.numLsb).recordFit (maxpayCap tw s.capSamples s.numLsb)
    (minkCap s.payloadLen tagged s.capSamples s.width)

/-- The code the fit test ends with for a tag of tw bytes (R149, R150). -/
def fitTestCode (tw : Nat) (s : State) : ErrorCode :=
  if fitCap s.payloadLen tw s.capSamples s.numLsb then .noError else .capacityExceeded

theorem exec_fitTest (hi : IsFitTest i tagged tw s) (l : LegalStart i s) :
    exec i s = .next ((fitTestRegs tagged tw s).finish (fitTestCode tw s)) := by
  rcases hi with ⟨rfl, rfl, rfl⟩ | ⟨rfl, rfl, rfl⟩
  · exact execChkfit_end l
  · exact execChkfitt_end l

/-- MAXPAY holds the reported length exactly (R146, R153). -/
theorem fitTestRegs_maxpay (tagged : Bool) (tw : Nat) (l : LegalStart i s) :
    (fitTestRegs tagged tw s).maxpay.toNat = s.capn.toNat * s.cfg.k.toNat / 8 - tw := by
  have hbits := mul_k_le s.capn l.k_le
  exact Nat.mod_eq_of_lt (show s.capn.toNat * s.cfg.k.toNat / 8 - tw < 2 ^ 32 by omega)

/-- MINK holds the least k' exactly (R147, R153). -/
theorem fitTestRegs_mink (tagged : Bool) (tw : Nat) (l : LegalStart i s) :
    LeastOrZero s.width (fitsAt s.payloadLen tagged s.capSamples s.capSamples)
      (fitTestRegs tagged tw s).mink.toNat := by
  have hleast : minkCap s.payloadLen tagged s.capSamples s.width ≤ s.width := leastK_le _ _
  have hwidth := l.width_le
  have hreg : (fitTestRegs tagged tw s).mink.toNat = minkCap s.payloadLen tagged s.capSamples s.width :=
    Nat.mod_eq_of_lt (by omega)
  rw [hreg]
  exact minkCap_least _ _ _ _

/-- CHKFIT and CHKFITT leave the same report on either verdict, and nothing else changes (R149, R150). -/
theorem fitTest_result (hi : IsFitTest i tagged tw s) (l : LegalStart i s) {code : ErrorCode}
    (hcode : fitTestCode tw s = code) :
    ∃ t, exec i s = .next t ∧ t.Ended code ∧ s.CapacityRecorded t ∧
      t.req = s.len ∧ t.maxpay.toNat = s.capn.toNat * s.cfg.k.toNat / 8 - tw ∧
      LeastOrZero (8 * s.cfg.depth.toNat) (fitsAt s.len.toNat tagged s.capn.toNat s.capn.toNat) t.mink.toNat ∧
      s.SameInputs t ∧ t.len = s.len ∧ t.tagval = s.tagval ∧ s.SameSamples t ∧ s.SamePayload t := by
  subst hcode
  exact ⟨_, exec_fitTest hi l, State.finish_ended _ _, { capOut_recorded s l.k_le with }, rfl,
    fitTestRegs_maxpay tagged tw l, fitTestRegs_mink tagged tw l,
    (((State.SameInputs.refl s).capOut _ _).recordFit _ _).finish _, rfl, rfl, fun _ => rfl, fun _ => rfl⟩

end

/-- Settles O35: the fit test passes with a tag of no bytes. -/
theorem chkfitFits : Obligations.ChkfitFits := fun _ l hfit =>
  fitTest_result (.inl ⟨rfl, rfl, rfl⟩) l (if_pos hfit)

/-- Settles O36: the fit test passes with the carrier's tag. -/
theorem chkfittFits : Obligations.ChkfittFits := fun _ l hfit =>
  fitTest_result (.inr ⟨rfl, rfl, rfl⟩) l (if_pos hfit)

/-- Settles O37: the fit test fails, with or without a tag. -/
theorem checkCapacityExceeded : Obligations.CheckCapacityExceeded := fun _ _ _ _ hi l hover =>
  fitTest_result hi l (if_neg hover.not_ge)

end Sys2Proof.Machine
end

section
/-! The size tag (42_framed.md R170, R171): its bytes and the length they stand for, peeled off one byte at a time in the
little-endian order; the big-endian order is the reverse. -/

namespace Sys2Proof.Machine

theorem tagValue_cons (b : Byte) (t : List Byte) : tagValue (b :: t) true = b.toNat + 2 ^ 8 * tagValue t true := by
  have weight (i : Nat) (x : Byte) : x.toNat * 2 ^ (8 * (i + 1)) = 2 ^ 8 * (x.toNat * 2 ^ (8 * i)) := by ring
  simp [tagValue, List.range_succ_eq_map, Function.comp_def, weight, List.sum_map_mul_left]

theorem tagBytes_succ (L tw : Nat) :
    tagBytes L (tw + 1) true = BitVec.ofNat 8 L :: tagBytes (L / 2 ^ 8) tw true := by
  simp only [tagBytes, List.range_succ_eq_map, List.map_cons, List.map_map, Function.comp_def, if_true, Nat.mul_succ,
    Nat.add_comm, Nat.shiftRight_add, ← Nat.shiftRight_eq_div_pow, Nat.mul_zero, Nat.shiftRight_zero]

/-- Read backwards, the bytes of one order are those of the other (R171). -/
theorem tagValue_big (t : List Byte) : tagValue t false = tagValue t.reverse true := by
  unfold tagValue
  rw [← List.sum_reverse, List.length_reverse]
  refine congrArg List.sum (List.ext_getElem (by simp) fun i hi _ => ?_)
  have hi : i < t.length := by simpa using hi
  have hmirror : t.length - 1 - i < t.length := by omega
  simp [hi, hmirror, show t.length - 1 - (t.length - 1 - i) = i by omega]

theorem tagBytes_big (L tw : Nat) : tagBytes L tw false = (tagBytes L tw true).reverse := by
  refine List.ext_getElem (by simp) fun i _ _ => ?_
  simp [tagBytes]

theorem tagValue_tagBytes_little {L tw : Nat} (h : L < 2 ^ (8 * tw)) : tagValue (tagBytes L tw true) true = L := by
  induction tw generalizing L with
  | zero =>
    obtain rfl : L = 0 := by simpa using h
    rfl
  | succ tw ih =>
    have hrest : L / 2 ^ 8 < 2 ^ (8 * tw) := Nat.div_lt_of_lt_mul (by rwa [← Nat.pow_add, Nat.add_comm])
    rw [tagBytes_succ, tagValue_cons, ih hrest, BitVec.toNat_ofNat, Nat.mod_add_div]

theorem tagValue_tagBytes {L tw : Nat} (le : Bool) (h : L < 2 ^ (8 * tw)) : tagValue (tagBytes L tw le) le = L := by
  cases le with
  | true => exact tagValue_tagBytes_little h
  | false => rw [tagBytes_big, tagValue_big, List.reverse_reverse, tagValue_tagBytes_little h]

theorem tagValue_little_lt (t : List Byte) : tagValue t true < 2 ^ (8 * t.length) := by
  induction t with
  | nil => decide
  | cons b t ih =>
    have hb := b.isLt
    rw [tagValue_cons, List.length_cons, Nat.mul_succ, Nat.pow_add]
    omega

/-- A tag stands for no more than its bytes can hold. -/
theorem tagValue_lt (t : List Byte) (le : Bool) : tagValue t le < 2 ^ (8 * t.length) := by
  cases le with
  | true => exact tagValue_little_lt t
  | false =>
    rw [tagValue_big, ← List.length_reverse]
    exact tagValue_little_lt _

/-- Byte i of the tag, as R170 writes it. -/
theorem tagBytes_getD_toNat (L : Nat) {tw i : Nat} (le : Bool) (hi : i < tw) :
    ((tagBytes L tw le).getD i 0#8).toNat =
      (if le then L / 2 ^ (8 * i) else L / 2 ^ (8 * (tw - 1 - i))) % 256 := by
  simp only [tagBytes, List.getD, List.getElem?_map, List.getElem?_range hi, Option.map_some, Option.getD_some,
    BitVec.toNat_ofNat, Nat.shiftRight_eq_div_pow]

/-- Settles O50: the value comes back byte by byte. -/
theorem tagRoundTrip : Obligations.TagRoundTrip := fun L tw le h =>
  ⟨tagValue_tagBytes le h, tagBytes_length L tw le⟩

end Sys2Proof.Machine
end

section
/-! The tagged codec commands ILVT and DILVT (42_framed.md R172 to R174): the framed stream, the tag read back from it,
and the obligations about both commands. -/

namespace Sys2Proof.Machine

section
variable {s t : State} {T : List Byte}

/-! ### Interleaving a framed payload -/

/-- The bytes ILVT interleaves: the size tag, then the payload (R172). -/
def State.framedBytes (s : State) : List Byte :=
  tagBytes s.payloadLen s.tagWidth s.tagLittle ++ s.payload s.payloadLen

@[simp] theorem State.framedBytes_length (s : State) : s.framedBytes.length = s.tagWidth + s.payloadLen := by
  simp [State.framedBytes]

/-- The payload stands after the tag. -/
theorem State.framedBytes_getD_payload (s : State) {j : Nat} (hj : j < s.payloadLen) :
    s.framedBytes.getD (s.tagWidth + j) 0#8 = s.payloadByte j := by
  rw [State.framedBytes, List.getD_append_right _ _ _ _ (by simp), tagBytes_length, Nat.add_sub_cancel_left,
    s.payload_getD hj]

theorem framedBytes_fits (hcarrier : fitCarrier s.payloadLen s.tagWidth s.numSamples s.numLsb) :
    8 * s.framedBytes.length ≤ s.numSamples * s.numLsb := by
  rwa [State.framedBytes_length, Nat.add_comm]

/-- Where the framed payload fits both bounds, ILVT reports and interleaves it (R172). -/
theorem execIlvt_fits (l : LegalStart .ilvt s) (hcap : fitCap s.payloadLen s.tagWidth s.capSamples s.numLsb)
    (hcarrier : fitCarrier s.payloadLen s.tagWidth s.numSamples s.numLsb) :
    exec .ilvt s =
      .next (((interleaveRegs true s.tagWidth s).interleave (bitsOf s.framedBytes)).finish .noError) := by
  rw [execIlvt_legal l, if_pos ⟨hcap, hcarrier⟩, ilvtRegs_eq]
  rfl

theorem framedBytes_interleaved (l : LegalStart .ilvt s)
    (hcarrier : fitCarrier s.payloadLen s.tagWidth s.numSamples s.numLsb) :
    s.Interleaved (((interleaveRegs true s.tagWidth s).interleave (bitsOf s.framedBytes)).finish .noError)
      s.framedBytes s.numLsb s.numSamples :=
  (interleaveRegs_interleaved l true s.tagWidth (framedBytes_fits hcarrier)).finish .noError

/-- ILVT succeeds only where both bounds hold (R172). -/
theorem ilvt_fits_of_noError (l : LegalStart .ilvt s) (h : exec .ilvt s = .next t) (ht : t.ecode = .noError) :
    fitCap s.payloadLen s.tagWidth s.capSamples s.numLsb ∧
      fitCarrier s.payloadLen s.tagWidth s.numSamples s.numLsb := by
  by_contra hfit
  rw [execIlvt_legal l, if_neg hfit] at h
  obtain rfl : (ilvtRegs s).finish .capacityExceeded = t := by simpa using h
  cases ht

/-! ### Reading the tag back -/

/-- The first bytes DILVT reads are the tag, where the samples present hold it (R173). -/
theorem State.TagIs.deinterleave_eq (hT : s.TagIs T) (hpresent : 8 * s.tagWidth ≤ s.numSamples * s.numLsb) :
    s.deinterleave (8 * s.tagWidth) = T := by
  have hlength : (s.deinterleave (8 * s.tagWidth)).length = s.tagWidth := by
    rw [s.deinterleave_length, Nat.mul_div_cancel_left _ (by decide)]
  refine List.ext_getElem (hlength.trans hT.length.symm) fun i hi hiT => ?_
  rw [hlength] at hi
  rw [List.getElem_eq_getD 0#8, List.getElem_eq_getD 0#8]
  exact byte_ext fun b hb => by
    rw [s.deinterleave_getLsbD (by omega) hb hpresent, hT.bits i b hi hb]
    rfl

theorem State.TagIs.declaredLen_eq (hT : s.TagIs T) (hpresent : 8 * s.tagWidth ≤ s.numSamples * s.numLsb) :
    s.declaredLen = tagValue T s.tagLittle :=
  congrArg (tagValue · s.tagLittle) (hT.deinterleave_eq hpresent)

/-- A declared length fits a register, for a tag has at most 4 bytes (41_capacity.md R153). -/
theorem State.TagIs.value_lt (hT : s.TagIs T) (hk : s.cfg.k.toNat ≤ 16) (le : Bool) : tagValue T le < 2 ^ 32 := by
  have hwidth : T.length ≤ 4 := hT.length.trans_le (tagwOf_le s.capn hk)
  exact (tagValue_lt T le).trans_le (Nat.pow_le_pow_right (by decide) (by omega))

/-- Where the samples hold the framed bytes, the tag that stands first is theirs. -/
theorem State.Interleaved.tagIs {u : State} {P : List Byte} {N : Nat}
    (h : s.Interleaved t (T ++ P) u.cfg.k.toNat N) (hsame : ∀ i, i < N → u.sample i = t.sample i)
    (hk : 1 ≤ u.cfg.k.toNat) (hfit : 8 * (T ++ P).length ≤ N * u.cfg.k.toNat) (hT : T.length = u.tagWidth) :
    u.TagIs T := by
  refine ⟨hT, fun i b hi hb => ?_⟩
  have hq : 8 * i + b < 8 * (T ++ P).length := by rw [List.length_append]; omega
  have hentry : (8 * i + b) / u.cfg.k.toNat < N :=
    Nat.div_lt_of_lt_mul (by rw [Nat.mul_comm u.cfg.k.toNat]; omega)
  rw [hsame _ hentry, h.getLsbD hk hfit hq, streamBit, show (8 * i + b) / 8 = i by omega,
    show (8 * i + b) % 8 = b by omega, List.getD_append _ _ _ _ (by omega)]

/-! ### What DILVT leaves -/

/-- The registers DILVT leaves once it has read the tag (R173). -/
def tagReadRegs (s : State) : State := (s.capOut s.capSamples s.numLsb).recordTag s.declaredLen

/-- The registers and the payload DILVT leaves when every check passes (R173). -/
def framedRegs (s : State) : State :=
  ((tagReadRegs s).storePayload ((s.deinterleave (8 * (s.tagWidth + s.declaredLen))).drop s.tagWidth)).setLen
    s.declaredLen

/-- Of the m + n bytes read, those after the first m are the stream from byte m on (R173). -/
theorem State.storePayload_drop_recovered (s : State) {m n : Nat} (hfit : 8 * (m + n) ≤ s.numSamples * s.numLsb) :
    s.Recovered (s.storePayload ((s.deinterleave (8 * (m + n))).drop m)) (8 * m) n s.numLsb := by
  have byte := s.storePayload_payloadByte ((s.deinterleave (8 * (m + n))).drop m)
  rw [List.length_drop, s.deinterleave_length, Nat.mul_div_cancel_left _ (by decide), Nat.add_sub_cancel_left] at byte
  refine ⟨fun j b hj hb => ?_, fun j hj => ?_⟩
  · have hdrop : ((s.deinterleave (8 * (m + n))).drop m).getD j 0#8 =
        (s.deinterleave (8 * (m + n))).getD (m + j) 0#8 := by
      simp [List.getD]
    rw [byte, if_pos hj, hdrop, s.deinterleave_getLsbD (by omega) hb hfit, Nat.mul_add]
  · rw [byte, if_neg (by omega)]

theorem framedRegs_recovered (hfit : 8 * (s.tagWidth + s.declaredLen) ≤ s.numSamples * s.numLsb) :
    s.Recovered (framedRegs s) (8 * s.tagWidth) s.declaredLen s.numLsb :=
  { s.storePayload_drop_recovered hfit with }

theorem tagReadRegs_tagval (l : LegalStart .dilvt s) (hT : s.TagIs T)
    (hpresent : 8 * s.tagWidth ≤ s.numSamples * s.numLsb) :
    (tagReadRegs s).tagval.toNat = tagValue T s.tagLittle := by
  have hfits := hT.value_lt l.k_le s.tagLittle
  rw [← hT.declaredLen_eq hpresent] at hfits ⊢
  exact Nat.mod_eq_of_lt hfits

/-- What an error after the tag was read leaves (R173, 60_exceptions.md R211). -/
theorem tagRead_error (l : LegalStart .dilvt s) (hT : s.TagIs T)
    (hpresent : 8 * s.tagWidth ≤ s.numSamples * s.numLsb) {e : ErrorCode} (ht : t = (tagReadRegs s).finish e) :
    t.Ended e ∧ s.CapacityRecorded t ∧ t.tagval.toNat = tagValue T s.cfg.tagle ∧ s.SameInputs t ∧ s.SameReport t ∧
      t.len = s.len ∧ s.SameSamples t ∧ s.SamePayload t := by
  subst ht
  exact ⟨State.finish_ended _ _, { capOut_recorded s l.k_le with }, tagReadRegs_tagval l hT hpresent,
    (((State.SameInputs.refl s).capOut _ _).recordTag _).finish e, ⟨rfl, rfl, rfl⟩, rfl, fun _ => rfl, fun _ => rfl⟩

end

/-- Settles O51: both bounds hold, so the tag and the payload are interleaved after the report. -/
theorem ilvtResult : Obligations.IlvtResult := by
  intro s l hcap hcarrier
  obtain ⟨capacity, req, maxpay, mink, inputs, len, tagval, payload⟩ :=
    ((interleaveRegs_reported l true s.tagWidth).interleave (bitsOf s.framedBytes)).finish .noError
  exact ⟨_, execIlvt_fits l hcap hcarrier, State.finish_ended _ _, capacity, req, maxpay, mink,
    ⟨tagBytes s.payloadLen s.tagWidth s.tagLittle, tagBytes_length _ _ _, fun _ hi => tagBytes_getD_toNat _ _ hi,
      framedBytes_interleaved l hcarrier⟩, inputs, len, tagval, payload⟩

/-- Settles O52: with every check passed, the bytes after the tag are stored and LEN takes their count. -/
theorem dilvtResult : Obligations.DilvtResult := by
  intro s T l hT (hpresent : 8 * s.tagWidth ≤ s.numSamples * s.numLsb)
    (hcap : tagValue T s.tagLittle + s.tagWidth ≤ capbytesOf s.capSamples s.numLsb)
    (hcarrier : 8 * (s.tagWidth + tagValue T s.tagLittle) ≤ s.numSamples * s.numLsb)
  have hlen := hT.declaredLen_eq hpresent
  rw [← hlen] at hcap hcarrier
  have hexec : exec .dilvt s = .next ((framedRegs s).finish .noError) := by
    rw [execDilvt_legal l, if_neg hpresent.not_gt, if_neg hcap.not_gt, if_neg hcarrier.not_gt]
    rfl
  have htagval := tagReadRegs_tagval l hT hpresent
  have hrec := framedRegs_recovered hcarrier
  rw [hlen] at hrec
  exact ⟨_, hexec, State.finish_ended _ _, { capOut_recorded s l.k_le with }, htagval, htagval, hrec.finish _,
    (((((State.SameInputs.refl s).capOut _ _).recordTag _).storePayload _).setLen _).finish _, ⟨rfl, rfl, rfl⟩,
    fun _ => rfl⟩

/-- Settles O53: the three checks in their order, the last two after TAGVAL is written. -/
theorem dilvtErrors : Obligations.DilvtErrors := by
  intro s T l hT
  refine ⟨_, execDilvt_legal l, fun (habsent : s.numSamples * s.numLsb < 8 * s.tagWidth) => ?_,
    fun (hpresent : 8 * s.tagWidth ≤ s.numSamples * s.numLsb)
      (hcap : capbytesOf s.capSamples s.numLsb < tagValue T s.tagLittle + s.tagWidth) => ?_,
    fun (hpresent : 8 * s.tagWidth ≤ s.numSamples * s.numLsb)
      (hcap : tagValue T s.tagLittle + s.tagWidth ≤ capbytesOf s.capSamples s.numLsb)
      (hcarrier : s.numSamples * s.numLsb < 8 * (s.tagWidth + tagValue T s.tagLittle)) => ?_⟩
  · rw [if_pos habsent]
    exact ⟨State.finish_ended _ _, { capOut_recorded s l.k_le with }, rfl,
      ((State.SameInputs.refl s).capOut _ _).finish _, ⟨rfl, rfl, rfl⟩, rfl, fun _ => rfl, fun _ => rfl⟩
  · rw [← hT.declaredLen_eq hpresent] at hcap
    rw [if_neg hpresent.not_gt, if_pos hcap]
    exact tagRead_error l hT hpresent rfl
  · rw [← hT.declaredLen_eq hpresent] at hcap hcarrier
    rw [if_neg hpresent.not_gt, if_neg hcap.not_gt, if_pos hcarrier]
    exact tagRead_error l hT hpresent rfl

/-- Settles O54: the tag read back is the one put in, so it declares the payload's length, whose bounds are those the
DILVT of O52 asks for. -/
theorem ilvtDilvtRoundTrip : Obligations.IlvtDilvtRoundTrip := by
  intro s t u hilvt ht lu hk hle hcapn hnsamp hsame
  have l := legalStart_of_noError (i := .ilvt) nofun hilvt ht
  obtain ⟨hcap, hcarrier⟩ := ilvt_fits_of_noError l hilvt ht
  have hint := framedBytes_interleaved l hcarrier
  obtain rfl : _ = t := by simpa [execIlvt_fits l hcap hcarrier] using hilvt
  have hfit : 8 * s.framedBytes.length ≤ s.nsamp.toNat * s.cfg.k.toNat := framedBytes_fits hcarrier
  have hwidth : u.tagWidth = s.tagWidth := by rw [State.tagWidth, hk, hcapn, State.tagWidth]
  have htag : u.TagIs (tagBytes s.payloadLen s.tagWidth s.tagLittle) :=
    State.Interleaved.tagIs (by rw [hk]; exact hint) hsame lu.kPos (by rw [hk]; exact hfit)
      ((tagBytes_length _ _ _).trans hwidth.symm)
  have hvalue : tagValue (tagBytes s.payloadLen s.tagWidth s.tagLittle) u.cfg.tagle = s.len.toNat :=
    hle ▸ tagValue_tagBytes s.tagLittle (tagNeverOverflows _ _ _ hcap)
  replace hcap : 8 * (s.len.toNat + s.tagWidth) ≤ s.capn.toNat * s.cfg.k.toNat := hcap
  replace hcarrier : 8 * (s.len.toNat + s.tagWidth) ≤ s.nsamp.toNat * s.cfg.k.toNat := hcarrier
  obtain ⟨v, hdilvt, hended, -, htagval, hlen, hrec, -⟩ := dilvtResult u _ lu htag
    (by rw [hwidth, hnsamp, hk]; omega) (by rw [hvalue, hwidth, hcapn, hk]; omega)
    (by rw [hvalue, hwidth, hnsamp, hk]; omega)
  rw [hvalue] at htagval hlen hrec
  refine ⟨v, hdilvt, hended, BitVec.eq_of_toNat_eq htagval, BitVec.eq_of_toNat_eq hlen, fun j hj => ?_⟩
  rw [hwidth, hk] at hrec
  rw [hrec.payloadByte_eq hint hsame l.kPos hfit s.framedBytes_length.ge hj, State.framedBytes_getD_payload s hj]

end Sys2Proof.Machine
end

section
/-! When a step answers a next state (43_control.md R191, 93_implementation_defined.md V19): a command always, the engine
always, a step unless no agent can move. -/

namespace Sys2Proof.Machine

section
variable {s : State}

/-- No command faults or is refused, whatever the state (43_control.md R193). -/
theorem exec_next (i : Instr) (s : State) : ∃ t, exec i s = .next t := by
  obtain ⟨e, u, heq, -⟩ := exec_cases i s
  exact ⟨u.finish e, heq⟩

/-- A legal word runs its command and an illegal one completes, so the engine's step never stops the machine. -/
theorem engineStep_next (s : State) : ∃ t, engineStep s = .next t := by
  rcases engineStep_cases s with ⟨i, -, heq⟩ | ⟨f, -, heq⟩
  · rw [heq]
    exact exec_next i s
  · exact ⟨_, heq⟩

/-- Some agent can move: the one whose turn it is, or the engine while BUSY with no turn left. -/
theorem step_next (h : ¬(s.phase = .idle ∧ s.script = [])) : ∃ t, step s = .next t := by
  cases hs : s.script with
  | nil =>
    cases hp : s.phase with
    | idle => exact absurd ⟨hp, hs⟩ h
    | busy =>
      rw [step_busy_nil hs hp]
      exact engineStep_next s
  | cons turn rest =>
    cases turn with
    | host e => exact ⟨_, step_host hs⟩
    | engine =>
      cases hp : s.phase with
      | idle => exact ⟨_, step_idle_engine hs hp⟩
      | busy =>
        rw [step_busy_engine hs hp]
        exact engineStep_next _

end

end Sys2Proof.Machine
end

section
/-! The engine's control (43_control.md): where the machine stops, the engine's step, issue and completion. -/

namespace Sys2Proof.Machine

/-- Settles O6: a step answers a next state wherever an agent can move, and elsewhere the one fault. -/
theorem stopsOnlyWhenNothingCanMove : Obligations.StopsOnlyWhenNothingCanMove := by
  intro s
  have stops (hi : s.phase = .idle) (hs : s.script = []) : step s = .fault .noStepEnabled := step_idle_nil hs hi
  refine ⟨⟨?_, step_next⟩, stops, fun r hr => ?_⟩
  · rintro ⟨t, ht⟩ ⟨hi, hs⟩
    rw [stops hi hs] at ht
    cases ht
  · by_cases hstop : s.phase = .idle ∧ s.script = []
    · rw [stops hstop.1 hstop.2] at hr
      cases hr
    · obtain ⟨t, ht⟩ := step_next hstop
      rw [ht] at hr
      cases hr

/-- Settles O26: no command fails to answer, and every one that answers has ended with its inputs kept. -/
theorem everyCommandEnds : Obligations.EveryCommandEnds := fun i s =>
  let ⟨t, ht⟩ := exec_next i s
  ⟨t, ht, exec_ends ht⟩

/-- Settles O4: in both places the step is the engine's, and the word is legal. -/
theorem stepRunsCommand : Obligations.StepRunsCommand := fun _ _ hb hd =>
  ⟨fun hs => (step_busy_nil hs hb).trans (engineStep_legal hd),
    fun _ hs => (step_busy_engine hs hb).trans (engineStep_legal hd)⟩

/-- Settles O9: CMD is a register that issues while IDLE, and a mapped word other than STATUS, so dropped while BUSY. -/
theorem issueByCmdWrite : Obligations.IssueByCmdWrite := by
  intro s w hr
  have hm : MappedWord s.params (0x00000018#32).toNat := ⟨by decide, .inl (by decide)⟩
  exact ⟨fun hi => State.hostEvent_write_reg_idle hr hi (r := .cmd) nofun w,
    fun hb => ⟨some .ok, State.hostEvent_write_busy hr hb hm (by decide) w⟩⟩

/-- Settles O27: NOP is a completion with NONE and nothing before it. -/
theorem nopCompletes : Obligations.NopCompletes := ⟨rfl, fun _ => rfl⟩

end Sys2Proof.Machine
end

section
/-! The completions with an error (60_exceptions.md): the illegal word, the error each common check raises, and what a
failure leaves unchanged. -/

namespace Sys2Proof.Machine

/-! ### The illegal word -/

/-- A word of 8 or more is no command's, whichever of its fields makes it illegal (30_encoding.md R92, R93). -/
theorem decode_illegal {w : Word} (h : 8 ≤ w.toNat) : ∃ f, decode w = .error f := by
  rcases decode_cases w with ⟨-, hd⟩ | ⟨-, -, hd⟩ | ⟨hlt, -⟩
  · exact ⟨_, hd⟩
  · exact ⟨_, hd⟩
  · exact absurd h hlt.not_ge

/-- Settles O5: in both places the step is the engine's, and the word is illegal. -/
theorem illegalWordEnds : Obligations.IllegalWordEnds := by
  intro s hb hw
  obtain ⟨f, hd⟩ := decode_illegal hw
  exact ⟨fun hs => (step_busy_nil hs hb).trans (engineStep_illegal hd),
    fun _ hs => (step_busy_engine hs hb).trans (engineStep_illegal hd), rfl⟩

/-! ### The common checks -/

section
variable {s : State}

theorem precheck_badDepth (i : Instr) (h1 : s.cfg.depth.toNat ≠ 1) (h2 : s.cfg.depth.toNat ≠ 2) :
    precheck i s = some .unsupportedBitDepth := by
  have hd : s.cfg.depth ≠ 1 ∧ s.cfg.depth ≠ 2 := by
    by_contra hn
    exact ((depth_cases _).1 hn).elim h1 h2
  exact if_pos hd

section
variable (hd : s.cfg.depth.toNat = 1 ∨ s.cfg.depth.toNat = 2)
include hd

theorem precheck_badK (i : Instr) (hk : s.cfg.k.toNat = 0 ∨ 8 * s.cfg.depth.toNat < s.cfg.k.toNat) :
    precheck i s = some .invalidK :=
  (if_neg ((depth_cases _).2 hd)).trans (if_pos hk)

theorem precheck_range {i : Instr} (hi : i ∈ [Instr.ilv, .ilvt, .dilv, .dilvt]) (hpos : 1 ≤ s.cfg.k.toNat)
    (hle : s.cfg.k.toNat ≤ 8 * s.cfg.depth.toNat) (hn : s.params.nsMax < s.nsamp.toNat) :
    precheck i s = some .range := by
  have hk : ¬(s.numLsb = 0 ∨ s.width < s.numLsb) := by
    simp only [State.numLsb, State.width]
    omega
  have hrange : readsSamples i = true ∧ s.params.nsMax < s.numSamples := ⟨(readsSamples_iff i).2 hi, hn⟩
  exact (if_neg ((depth_cases _).2 hd)).trans ((if_neg hk).trans (if_pos hrange))

end

end

/-- Settles O28: the check of DEPTH comes first. -/
theorem badDepthEnds : Obligations.BadDepthEnds :=
  ⟨rfl, fun i _ hi h1 h2 => exec_precheck_some hi (precheck_badDepth i h1 h2)⟩

/-- Settles O29: past the check of DEPTH, that of K comes before NSAMP is looked at. -/
theorem badKEnds : Obligations.BadKEnds :=
  ⟨rfl, fun i _ hi hd hk => exec_precheck_some hi (precheck_badK hd i hk)⟩

/-- Settles O30: past the checks of DEPTH and K, the four commands check NSAMP, and NOP is none of them. -/
theorem rangeEnds : Obligations.RangeEnds := by
  refine ⟨rfl, fun i s hi hd hpos hle hn => exec_precheck_some ?_ (precheck_range hd hi hpos hle hn)⟩
  rintro rfl
  exact absurd hi (by decide)

/-! ### What a failure leaves -/

section
variable {s t : State} (hc : t.resetCount = s.resetCount)
include hc

/-- A RAM with the same listed cells reads the same, as long as no reset has drawn the unlisted ones anew. -/
theorem State.sameSamples_of_sram (hm : t.sram = s.sram) : s.SameSamples t := fun i => by
  simp only [State.sample, hm, hc]

theorem State.samePayload_of_pram (hm : t.pram = s.pram) : s.SamePayload t := fun j => by
  simp only [State.payloadByte, hm, hc]

end

/-- Settles O31: a body that ends with an error has left both RAMs and LEN as they were, and the completion writes STATUS
alone. -/
theorem failureLeavesRams : Obligations.FailureLeavesRams := by
  intro i s t h hfail
  obtain ⟨e, u, heq, hbody, hkept⟩ := exec_cases i s
  obtain rfl : u.finish e = t := by simpa [heq] using h
  obtain ⟨hsram, hpram, hlen⟩ := hkept hfail
  have same : s.SameInputs (u.finish e) := hbody.sameInputs.finish e
  exact ⟨State.sameSamples_of_sram same.resetCount hsram, State.samePayload_of_pram same.resetCount hpram, hlen, same⟩

end Sys2Proof.Machine
end

section
/-! The engine's progress and the commands while BUSY (70_reset_and_hazards.md R234, R235, R238): what a bus access can
move while a command is in progress, and that no command reads it. -/

namespace Sys2Proof.Machine

section
variable {s t : State}

/-- The engine's step ends IDLE with DONE 1 whatever the latched word (43_control.md R191, R193). -/
theorem engineStep_ends (h : engineStep s = .next t) : t.phase = .idle ∧ t.done = true := by
  rcases engineStep_cases s with ⟨i, -, heq⟩ | ⟨f, -, heq⟩
  · obtain ⟨hphase, hdone, -⟩ := exec_ends (heq ▸ h)
    exact ⟨hphase, hdone⟩
  · cases heq.symm.trans h
    exact ⟨rfl, rfl⟩

/-! ### What an access can move while BUSY -/

/-- s with the fields replaced that a bus access can move while BUSY: STATUS's two W1C bits, the answer and the draw
counter. -/
def State.accessed (done hzd : Bool) (r : Option BusResponse) (d : Nat) (s : State) : State :=
  { s with done := done, hzd := hzd, response := r, drawCount := d }

/-- A STATUS write clears W1C bits, any other write is dropped, and a read moves no register; while rst is asserted an
access moves no register either (R231). -/
theorem State.hostEvent_access_busy {e : HostEvent} (hb : s.phase = .busy) (ha : e.isAccess = true) :
    ∃ done hzd r d, s.hostEvent e = s.accessed done hzd r d := by
  have effect := s.hostEvent_effect e
  generalize s.hostEvent e = t at effect ⊢
  cases effect with
  | read | ignored => exact ⟨s.done, s.hzd, _, _, rfl⟩
  | status => exact ⟨_, _, _, s.drawCount, rfl⟩
  | dropped => exact ⟨s.done, true, _, s.drawCount, rfl⟩
  | written _ _ _ _ hi => exact absurd (hb.symm.trans hi) nofun
  | reset | noReset => cases ha

theorem State.hostEvent_access_phase {e : HostEvent} (hb : s.phase = .busy) (ha : e.isAccess = true) :
    (s.hostEvent e).phase = .busy := by
  obtain ⟨done, hzd, r, d, heq⟩ := State.hostEvent_access_busy hb ha
  rw [heq]
  exact hb

theorem hostEvents_access_busy {es : List HostEvent} (hb : s.phase = .busy) (ha : ∀ e ∈ es, e.isAccess = true) :
    ∃ done hzd r d, hostEvents es s = s.accessed done hzd r d := by
  induction es generalizing s with
  | nil => exact ⟨s.done, s.hzd, s.response, s.drawCount, rfl⟩
  | cons e es ih =>
    obtain ⟨hhead, hrest⟩ := List.forall_mem_cons.1 ha
    obtain ⟨done, hzd, r, d, heq⟩ := State.hostEvent_access_busy hb hhead
    obtain ⟨done', hzd', r', d', heqs⟩ := ih (s := s.accessed done hzd r d) hb hrest
    exact ⟨done', hzd', r', d', (congrArg (hostEvents es) heq).trans heqs⟩

/-! ### No command reads it -/

section
variable (done hzd : Bool) (r : Option BusResponse) (d : Nat)

/-- The common checks read CFG, NSAMP and NS_MAX alone, so only the body has to be looked at. -/
theorem afterPrecheck_accessed (i : Instr) {body : State → State}
    (hbody : body (s.accessed done hzd r d) = (body s).accessed true hzd r d) :
    afterPrecheck i (s.accessed done hzd r d) body = (afterPrecheck i s body).accessed true hzd r d := by
  have hcheck : precheck i (s.accessed done hzd r d) = precheck i s := rfl
  unfold afterPrecheck
  rw [hcheck]
  cases precheck i s with
  | none => exact hbody
  | some e => rfl

/-- A command carries HZD, the answer and the draw counter through unread, and overwrites DONE (30_encoding.md R95,
43_control.md R193): its tests read inputs and SRAM alone, so both runs take the same branch. -/
theorem exec_accessed {i : Instr} (h : exec i s = .next t) :
    exec i (s.accessed done hzd r d) = .next (t.accessed true hzd r d) := by
  cases i with
  | nop => cases h; rfl
  | capq => cases h; exact congrArg _ (afterPrecheck_accessed done hzd r d _ rfl)
  | chkfit | chkfitt | ilv | ilvt | dilv | dilvt =>
    cases h
    refine congrArg _ (afterPrecheck_accessed done hzd r d _ ?_)
    simp only [apply_ite (State.accessed true hzd r d)]
    rfl

theorem engineStep_accessed (h : engineStep s = .next t) :
    engineStep (s.accessed done hzd r d) = .next (t.accessed true hzd r d) := by
  rcases engineStep_cases s with ⟨i, hd, heq⟩ | ⟨f, hd, heq⟩
  · rw [engineStep_legal (s := s.accessed done hzd r d) hd]
    exact exec_accessed done hzd r d (heq ▸ h)
  · rw [engineStep_illegal (s := s.accessed done hzd r d) hd]
    cases heq.symm.trans h
    rfl

/-- After a completion DONE is 1 anyway. -/
theorem State.accessed_of_done (h : t.done = true) :
    t.accessed true hzd r d = { t with hzd := hzd, response := r, drawCount := d } := by
  rw [← h]
  rfl

end

/-! ### The engine gets its turn -/

theorem run_one_of_engineStep {u : State} (h : step s = engineStep u) :
    ∃ t : State, Sys2Proof.core.run 1 s = .next t ∧ t.phase = .idle ∧ t.done = true := by
  obtain ⟨t, ht⟩ := engineStep_next u
  exact ⟨t, run_succ 0 (h.trans ht), engineStep_ends ht⟩

/-- By induction on the turns: an access leaves the command in progress, and the engine's turn, or the end of the turns,
ends it (R238). -/
theorem run_completes {turns : List Turn} (hs : s.script = turns) (hb : s.phase = .busy)
    (ha : ∀ e, Turn.host e ∈ turns → e.isAccess = true) :
    ∃ (n : Nat) (t : State), n ≤ turns.length + 1 ∧ Sys2Proof.core.run n s = .next t ∧ t.phase = .idle ∧
      t.done = true := by
  induction turns generalizing s with
  | nil => exact ⟨1, (run_one_of_engineStep (step_busy_nil hs hb)).imp fun _ h => ⟨le_rfl, h⟩⟩
  | cons turn rest ih =>
    cases turn with
    | engine => exact ⟨1, (run_one_of_engineStep (step_busy_engine hs hb)).imp fun _ h => ⟨by simp, h⟩⟩
    | host e =>
      have hphase := State.hostEvent_access_phase (s := { s with script := rest }) hb (ha e List.mem_cons_self)
      obtain ⟨n, t, hn, hrun, hended⟩ :=
        ih (State.hostEvent_script e _) hphase fun e' he' => ha e' (List.mem_cons_of_mem _ he')
      exact ⟨n + 1, t, by simpa using hn, (run_succ n (step_host hs)).trans hrun, hended⟩

end

end Sys2Proof.Machine
end

section
/-! Reads while BUSY (70_reset_and_hazards.md R235): which addresses answer any value, and the word of STATUS; then what
the reset input and an access under it do (R230, R231). -/

namespace Sys2Proof.Machine

/-! ### The words of the register page -/

/-- LEN and the result registers (R235), by their offsets. -/
theorem unstableWhileBusy_iff (r : Reg) :
    unstableWhileBusy r = true ↔ regOffset r = 0x10 ∨ (0x20 ≤ regOffset r ∧ regOffset r ≤ 0x38) := by
  cases r <;> decide

/-- Every word up to PBMAX is a register (10_state.md R23). -/
theorem regAt_none {n : Nat} (h4 : n % 4 = 0) (h : regAt n = none) : 0x44 ≤ n := by
  have registers : ∀ q < 17, regAt (4 * q) ≠ none := by decide
  by_contra hn
  exact registers (n / 4) (by omega) (by rwa [show 4 * (n / 4) = n by omega])

theorem reserved_of_target {p : Params} {a : Word} (h : target p a = .ok .reserved) :
    0x44 ≤ a.toNat ∧ a.toNat < 0x100 := by
  unfold target at h
  split at h
  · cases h
  rename_i h4
  split at h
  · rename_i hpage
    split at h
    · cases h
    · rename_i hreg
      exact ⟨regAt_none (by omega) hreg, hpage⟩
  · split at h
    · cases h
    · split at h <;> cases h

section
variable {s : State} {a : Word} {t : Target}

/-! ### Reads while BUSY -/

/-- Beside LEN and the result registers, both RAM windows answer any value (R235). -/
theorem State.readsAnyValue_busy_iff (hb : s.phase = .busy) (ht : target s.params a = .ok t) :
    s.readsAnyValue t = true ↔ a.toNat = 0x10 ∨ (0x20 ≤ a.toNat ∧ a.toNat ≤ 0x38) ∨ 0x100 ≤ a.toNat := by
  unfold State.readsAnyValue
  rw [State.busy_iff.2 hb, Bool.true_and]
  cases t with
  | reg r =>
    obtain ⟨-, hpage, hreg⟩ := target_reg ht
    have hoffset := regAt_some hreg
    refine (unstableWhileBusy_iff r).trans ?_
    omega
  | reserved =>
    obtain ⟨hlo, hhi⟩ := reserved_of_target ht
    exact iff_of_false nofun (by omega)
  | sample i =>
    obtain ⟨-, ha⟩ := target_sample ht
    exact iff_of_true rfl (by omega)
  | payload j =>
    obtain ⟨-, -, ha⟩ := target_payload ht
    exact iff_of_true rfl (by omega)

/-- The other registers read the same in both phases. -/
theorem State.hostEvent_read_stable {r : Reg} (hr : s.rst = false) (h : unstableWhileBusy r = false) :
    s.hostEvent (.read (regAddr r)) = s.answer (some (.data (s.readReg r))) :=
  State.hostEvent_read hr (target_regAddr r) (by simp [State.readsAnyValue, h])

/-- In a state of the invariant an issue has cleared DONE and ECODE (43_control.md R190). -/
theorem State.Inv.statusWord_busy (h : s.Inv) (hb : s.phase = .busy) :
    s.statusWord = if s.hzd then 0x00000009#32 else 0x00000001#32 := by
  obtain ⟨hdone, hecode⟩ := h.busyClear hb
  simp only [State.statusWord, State.err, State.busy, hb, hdone, hecode]
  cases s.hzd <;> rfl

/-! ### The reset input -/

theorem State.driveRst_resets {level : Bool} (h : level = true ∨ s.rst = true) :
    s.driveRst level = { s.afterReset with rst := level } :=
  if_pos (by simpa using h)

theorem State.hostEvent_access_inReset {e : HostEvent} (hr : s.rst = true) (ha : e.isAccess = true) :
    ∃ whenOk, s.hostEvent e = s.accessInReset whenOk := by
  cases e with
  | read | write => exact ⟨_, if_pos hr⟩
  | setRst => cases ha

end

end Sys2Proof.Machine
end

section
/-! Reset and the hazards of accesses while BUSY (70_reset_and_hazards.md). -/

namespace Sys2Proof.Machine

/-- Settles O7: the accesses before the engine's turn leave the command in progress. -/
theorem everyCommandCompletes : Obligations.EveryCommandCompletes := fun _ hb ha => run_completes rfl hb ha

/-- Settles O12: a mapped word other than STATUS drops the write, STATUS takes it in either phase, and any other address
refuses it. -/
theorem busyWritesDropped : Obligations.BusyWritesDropped := fun s _ v hr =>
  ⟨fun hb hm ha => ⟨_, State.hostEvent_write_busy hr hb hm ha v⟩, fun ha => ha ▸ statusWriteClears s v hr,
    fun hm => State.hostEvent_write_unmapped hr hm v _⟩

/-- Settles O19: the stable registers and the reserved offsets answer exactly, any other mapped word some value. -/
theorem busyReads : Obligations.BusyReads := by
  intro s a hr hb hm
  have stable (r : Reg) (h : unstableWhileBusy r = false) (ha : a = regAddr r) :
      s.hostEvent (.read a) = s.answer (some (.data (s.readReg r))) := ha ▸ State.hostEvent_read_stable hr h
  refine ⟨fun hinv ha => ?_, stable .id rfl, stable .cfg rfl, stable .nsamp rfl, stable .capn rfl, stable .nbits rfl,
    stable .nsmax rfl, stable .pbmax rfl, ?_, fun _ => State.hostEvent_read_mapped hr hm⟩
  · rw [← hinv.statusWord_busy hb]
    exact stable .status rfl ha
  · rintro (ha | ⟨hlo, hhi⟩)
    · exact stable .cmd rfl ha
    · exact State.hostEvent_read hr (target_reserved hm.1 hlo hhi) (Bool.and_false _)

/-- Settles O20: the addresses that answer any value are the first class; every other address answers its exact value,
with no draw. -/
theorem busyReadsAreFree : Obligations.BusyReadsAreFree := by
  intro s a hr hb hm
  obtain ⟨t, ht⟩ := (target_isOk_iff a).2 hm
  have free := State.readsAnyValue_busy_iff hb ht
  refine ⟨fun ha => State.hostEvent_read_any hr ht (free.2 (ha.imp_left (congrArg BitVec.toNat))), fun ha => ?_⟩
  have hexact : s.readsAnyValue t = false := Bool.eq_false_iff.2 (mt free.1 (by omega))
  rw [State.hostEvent_read hr ht hexact]
  rfl

/-- Settles O24: either change of rst resets the block, and an access in between draws an answer and nothing else. -/
theorem resetInput : Obligations.ResetInput := by
  refine ⟨fun s level h => ⟨Config.pcmdAtReset (s.resetCount + 1), ?_⟩, fun s e hr ha => ?_⟩
  · exact congrArg (State.answer none) (State.driveRst_resets h)
  · obtain ⟨whenOk, heq⟩ := State.hostEvent_access_inReset hr ha
    exact ⟨_, heq⟩

/-- Settles O58: the accesses move only what the engine carries through unread, and DONE, which the completion sets. -/
theorem accessesWhileBusyDoNotMatter : Obligations.AccessesWhileBusyDoNotMatter := by
  intro s es hb ha
  obtain ⟨done, hzd, r, d, heq⟩ := hostEvents_access_busy hb ha
  rw [heq]
  refine ⟨hb, rfl, ?_, fun i => ?_⟩
  · obtain ⟨t, ht⟩ := engineStep_next s
    obtain ⟨-, hdone⟩ := engineStep_ends ht
    exact ⟨t, _, ht, engineStep_accessed done hzd r d ht, State.accessed_of_done hzd r d hdone⟩
  · obtain ⟨t, ht⟩ := exec_next i s
    obtain ⟨-, hdone, -⟩ := exec_ends ht
    exact ⟨t, _, ht, exec_accessed done hzd r d ht, State.accessed_of_done hzd r d hdone⟩

end Sys2Proof.Machine
end
